-- ==== Sys2Proof/Word.lean ====
section
/-! DEFINITION. The machine's words (spec/00_scope.md R7): 8-bit data, the 13-bit Program Counter, and the operand
fields of an instruction (spec/30_encoding.md R102). -/

namespace Sys2Proof

/-- The data word: 8 bits (R7). -/
abbrev Byte := BitVec 8

/-- A program memory address: 13 bits (R7, R32). -/
abbrev CodeAddr := BitVec 13

/-- The field `rrr`: working register R0 to R7 of the selected bank (R102). -/
abbrev RegNum := BitVec 3

/-- The field `r`: pointer register R0 or R1 of the selected bank (R102). -/
abbrev PtrNum := BitVec 1

/-- The field `bbb`: the Accumulator bit that JBb tests (R102). -/
abbrev BitNum := BitVec 3

/-- The field `aaa`: bits 10 to 8 of the target of JMP and CALL, the page within the bank (R102). -/
abbrev PageNum := BitVec 3

end Sys2Proof
end

