-- ==== Sys2Proof/Syntax.lean ====
section
/-! DEFINITION. The 106 instructions of Table 7 (spec/30_encoding.md R111, spec/opcode_table.json), one constructor per
row, in the table's order. The operands are the fields of R102: every value of every field is assigned (R108), so every
term is an instruction of the family; whether a given device has it is `WellFormed`. -/

namespace Sys2Proof

/-- One constructor per row of spec/opcode_table.json; each docstring names the row and its rule. -/
inductive Instr where
  /-- ADD A,Rr (R133). -/
  | addARr (r : RegNum)
  /-- ADD A,@Rr (R134). -/
  | addAInd (p : PtrNum)
  /-- ADD A,#data (R135). -/
  | addAImm (data : Byte)
  /-- ADDC A,Rr (R136). -/
  | addcARr (r : RegNum)
  /-- ADDC A,@Rr (R137). -/
  | addcAInd (p : PtrNum)
  /-- ADDC A,#data (R138). -/
  | addcAImm (data : Byte)
  /-- ANL A,Rr (R139). -/
  | anlARr (r : RegNum)
  /-- ANL A,@Rr (R140). -/
  | anlAInd (p : PtrNum)
  /-- ANL A,#data (R141). -/
  | anlAImm (data : Byte)
  /-- ORL A,Rr (R142). -/
  | orlARr (r : RegNum)
  /-- ORL A,@Rr (R143). -/
  | orlAInd (p : PtrNum)
  /-- ORL A,#data (R144). -/
  | orlAImm (data : Byte)
  /-- XRL A,Rr (R145). -/
  | xrlARr (r : RegNum)
  /-- XRL A,@Rr (R146). -/
  | xrlAInd (p : PtrNum)
  /-- XRL A,#data (R147). -/
  | xrlAImm (data : Byte)
  /-- INC A (R148). -/
  | incA
  /-- DEC A (R149). -/
  | decA
  /-- CLR A (R150). -/
  | clrA
  /-- CPL A (R151). -/
  | cplA
  /-- RL A (R152). -/
  | rlA
  /-- RLC A (R153). -/
  | rlcA
  /-- RR A (R154). -/
  | rrA
  /-- RRC A (R155). -/
  | rrcA
  /-- DA A (R156). -/
  | daA
  /-- SWAP A (R157). -/
  | swapA
  /-- MOV A,Rr (R161). -/
  | movARr (r : RegNum)
  /-- MOV A,@Rr (R162). -/
  | movAInd (p : PtrNum)
  /-- MOV A,#data (R163). -/
  | movAImm (data : Byte)
  /-- MOV Rr,A (R164). -/
  | movRrA (r : RegNum)
  /-- MOV @Rr,A (R165). -/
  | movIndA (p : PtrNum)
  /-- MOV Rr,#data (R166). -/
  | movRrImm (r : RegNum) (data : Byte)
  /-- MOV @Rr,#data (R167). -/
  | movIndImm (p : PtrNum) (data : Byte)
  /-- XCH A,Rr (R168). -/
  | xchARr (r : RegNum)
  /-- XCH A,@Rr (R169). -/
  | xchAInd (p : PtrNum)
  /-- XCHD A,@Rr (R170). -/
  | xchdAInd (p : PtrNum)
  /-- MOV A,PSW (R171). -/
  | movAPsw
  /-- MOV PSW,A (R173). -/
  | movPswA
  /-- MOVP A,@A (R172). -/
  | movpAA
  /-- CLR C (R180). -/
  | clrC
  /-- CPL C (R181). -/
  | cplC
  /-- INC Rr (R182). -/
  | incRr (r : RegNum)
  /-- INC @Rr (R183). -/
  | incInd (p : PtrNum)
  /-- DEC Rr (R184). -/
  | decRr (r : RegNum)
  /-- DEC @Rr (R185). -/
  | decInd (p : PtrNum)
  /-- JMP addr (R193). -/
  | jmp (page : PageNum) (addr : Byte)
  /-- JMPP @A (R194). -/
  | jmppA
  /-- DJNZ Rr,addr (R195). -/
  | djnzRr (r : RegNum) (addr : Byte)
  /-- DJNZ @Rr,addr (R196). -/
  | djnzInd (p : PtrNum) (addr : Byte)
  /-- JBb addr (R197). -/
  | jb (b : BitNum) (addr : Byte)
  /-- JC addr (R198). -/
  | jc (addr : Byte)
  /-- JNC addr (R199). -/
  | jnc (addr : Byte)
  /-- JZ addr (R200). -/
  | jz (addr : Byte)
  /-- JNZ addr (R201). -/
  | jnz (addr : Byte)
  /-- JT0 addr (R202). -/
  | jt0 (addr : Byte)
  /-- JNT0 addr (R203). -/
  | jnt0 (addr : Byte)
  /-- JT1 addr (R204). -/
  | jt1 (addr : Byte)
  /-- JNT1 addr (R205). -/
  | jnt1 (addr : Byte)
  /-- JTF addr (R206). -/
  | jtf (addr : Byte)
  /-- JNTF addr (R207). -/
  | jntf (addr : Byte)
  /-- MOV A,T (R215). -/
  | movAT
  /-- MOV T,A (R216). -/
  | movTA
  /-- STRT CNT (R217). -/
  | strtCnt
  /-- STRT T (R218). -/
  | strtT
  /-- STOP TCNT (R219). -/
  | stopTcnt
  /-- EN TCNTI (R220). -/
  | enTcnti
  /-- DIS TCNTI (R221). -/
  | disTcnti
  /-- EN I (R222). -/
  | enI
  /-- DIS I (R223). -/
  | disI
  /-- SEL RB0 (R224). -/
  | selRb0
  /-- SEL RB1 (R225). -/
  | selRb1
  /-- SEL MB0 (R226). -/
  | selMb0
  /-- SEL MB1 (R227). -/
  | selMb1
  /-- SEL MB2 (R228). -/
  | selMb2
  /-- SEL MB3 (R229). -/
  | selMb3
  /-- STOP (R230). -/
  | stop
  /-- IDLE (R231). -/
  | idle
  /-- CALL addr (R242). -/
  | call (page : PageNum) (addr : Byte)
  /-- RET (R243). -/
  | ret
  /-- RETR (R244). -/
  | retr
  /-- IN A,P0 (R251). -/
  | inAP0
  /-- IN A,P1 (R252). -/
  | inAP1
  /-- IN A,P2 (R253). -/
  | inAP2
  /-- OUTL P0,A (R254). -/
  | outlP0A
  /-- OUTL P1,A (R255). -/
  | outlP1A
  /-- OUTL P2,A (R256). -/
  | outlP2A
  /-- ANL P0,#data (R257). -/
  | anlP0Imm (data : Byte)
  /-- ANL P1,#data (R258). -/
  | anlP1Imm (data : Byte)
  /-- ANL P2,#data (R259). -/
  | anlP2Imm (data : Byte)
  /-- ORL P0,#data (R260). -/
  | orlP0Imm (data : Byte)
  /-- ORL P1,#data (R261). -/
  | orlP1Imm (data : Byte)
  /-- ORL P2,#data (R262). -/
  | orlP2Imm (data : Byte)
  /-- MOV A,Dx (R264). -/
  | movADx (x : Byte)
  /-- MOV Dx,A (R265). -/
  | movDxA (x : Byte)
  /-- ANL Dx,A (R266). -/
  | anlDxA (x : Byte)
  /-- ORL Dx,A (R267). -/
  | orlDxA (x : Byte)
  /-- MOV A,S0 (R269). -/
  | movAS0
  /-- MOV A,S1 (R270). -/
  | movAS1
  /-- MOV S0,A (R271). -/
  | movS0A
  /-- MOV S1,A (R272). -/
  | movS1A
  /-- MOV S2,A (R273). -/
  | movS2A
  /-- MOV S0,#data (R274). -/
  | movS0Imm (data : Byte)
  /-- MOV S1,#data (R275). -/
  | movS1Imm (data : Byte)
  /-- MOV S2,#data (R276). -/
  | movS2Imm (data : Byte)
  /-- EN SI (R277). -/
  | enSi
  /-- DIS SI (R278). -/
  | disSi
  /-- NOP (R279). -/
  | nop
deriving DecidableEq, Repr

end Sys2Proof
end

