-- ==== Sys2Proof/Decode.lean ====
section
/-! DEFINITION. The decoder, total on any bytes and rejecting by name, the encoder, and the two numbers of bytes and
machine cycles, all from the encoding tables of spec/30_encoding.md (R101 to R107) and spec/opcode_table.json. -/

namespace Sys2Proof

/-- One row of the opcode table: the opcodes `op` with `op AND mask = pat` are this instruction; `bytes` is its length
and `build` reads its operand fields from the opcode and the second byte (R101, R102). -/
structure Row where
  mask : Byte
  pat : Byte
  bytes : Nat
  build : Byte → Byte → Instr

/-- The field `rrr` of an opcode: `op[2:0]` (R102). -/
def regField (op : Byte) : RegNum := op.extractLsb' 0 3

/-- The field `r` of an opcode: `op[0]` (R102). -/
def ptrField (op : Byte) : PtrNum := op.extractLsb' 0 1

/-- The fields `aaa` and `bbb` of an opcode: `op[7:5]` (R102). -/
def topField (op : Byte) : BitVec 3 := op.extractLsb' 5 3

/-- Table 7, ACCUMULATOR. -/
def accumulatorRows : List Row := [
  ⟨0xF8, 0x68, 1, fun op _ => .addARr (regField op)⟩,
  ⟨0xFE, 0x60, 1, fun op _ => .addAInd (ptrField op)⟩,
  ⟨0xFF, 0x03, 2, fun _ b2 => .addAImm b2⟩,
  ⟨0xF8, 0x78, 1, fun op _ => .addcARr (regField op)⟩,
  ⟨0xFE, 0x70, 1, fun op _ => .addcAInd (ptrField op)⟩,
  ⟨0xFF, 0x13, 2, fun _ b2 => .addcAImm b2⟩,
  ⟨0xF8, 0x58, 1, fun op _ => .anlARr (regField op)⟩,
  ⟨0xFE, 0x50, 1, fun op _ => .anlAInd (ptrField op)⟩,
  ⟨0xFF, 0x53, 2, fun _ b2 => .anlAImm b2⟩,
  ⟨0xF8, 0x48, 1, fun op _ => .orlARr (regField op)⟩,
  ⟨0xFE, 0x40, 1, fun op _ => .orlAInd (ptrField op)⟩,
  ⟨0xFF, 0x43, 2, fun _ b2 => .orlAImm b2⟩,
  ⟨0xF8, 0xD8, 1, fun op _ => .xrlARr (regField op)⟩,
  ⟨0xFE, 0xD0, 1, fun op _ => .xrlAInd (ptrField op)⟩,
  ⟨0xFF, 0xD3, 2, fun _ b2 => .xrlAImm b2⟩,
  ⟨0xFF, 0x17, 1, fun _ _ => .incA⟩,
  ⟨0xFF, 0x07, 1, fun _ _ => .decA⟩,
  ⟨0xFF, 0x27, 1, fun _ _ => .clrA⟩,
  ⟨0xFF, 0x37, 1, fun _ _ => .cplA⟩,
  ⟨0xFF, 0xE7, 1, fun _ _ => .rlA⟩,
  ⟨0xFF, 0xF7, 1, fun _ _ => .rlcA⟩,
  ⟨0xFF, 0x77, 1, fun _ _ => .rrA⟩,
  ⟨0xFF, 0x67, 1, fun _ _ => .rrcA⟩,
  ⟨0xFF, 0x57, 1, fun _ _ => .daA⟩,
  ⟨0xFF, 0x47, 1, fun _ _ => .swapA⟩]

/-- Table 7, DATA MOVES. -/
def moveRows : List Row := [
  ⟨0xF8, 0xF8, 1, fun op _ => .movARr (regField op)⟩,
  ⟨0xFE, 0xF0, 1, fun op _ => .movAInd (ptrField op)⟩,
  ⟨0xFF, 0x23, 2, fun _ b2 => .movAImm b2⟩,
  ⟨0xF8, 0xA8, 1, fun op _ => .movRrA (regField op)⟩,
  ⟨0xFE, 0xA0, 1, fun op _ => .movIndA (ptrField op)⟩,
  ⟨0xF8, 0xB8, 2, fun op b2 => .movRrImm (regField op) b2⟩,
  ⟨0xFE, 0xB0, 2, fun op b2 => .movIndImm (ptrField op) b2⟩,
  ⟨0xF8, 0x28, 1, fun op _ => .xchARr (regField op)⟩,
  ⟨0xFE, 0x20, 1, fun op _ => .xchAInd (ptrField op)⟩,
  ⟨0xFE, 0x30, 1, fun op _ => .xchdAInd (ptrField op)⟩,
  ⟨0xFF, 0xC7, 1, fun _ _ => .movAPsw⟩,
  ⟨0xFF, 0xD7, 1, fun _ _ => .movPswA⟩,
  ⟨0xFF, 0xA3, 1, fun _ _ => .movpAA⟩]

/-- Table 7, CARRY FLAG and REGISTER. -/
def flagRegisterRows : List Row := [
  ⟨0xFF, 0x97, 1, fun _ _ => .clrC⟩,
  ⟨0xFF, 0xA7, 1, fun _ _ => .cplC⟩,
  ⟨0xF8, 0x18, 1, fun op _ => .incRr (regField op)⟩,
  ⟨0xFE, 0x10, 1, fun op _ => .incInd (ptrField op)⟩,
  ⟨0xF8, 0xC8, 1, fun op _ => .decRr (regField op)⟩,
  ⟨0xFE, 0xC0, 1, fun op _ => .decInd (ptrField op)⟩]

/-- Table 7, BRANCH. -/
def branchRows : List Row := [
  ⟨0x1F, 0x04, 2, fun op b2 => .jmp (topField op) b2⟩,
  ⟨0xFF, 0xB3, 1, fun _ _ => .jmppA⟩,
  ⟨0xF8, 0xE8, 2, fun op b2 => .djnzRr (regField op) b2⟩,
  ⟨0xFE, 0xE0, 2, fun op b2 => .djnzInd (ptrField op) b2⟩,
  ⟨0x1F, 0x12, 2, fun op b2 => .jb (topField op) b2⟩,
  ⟨0xFF, 0xF6, 2, fun _ b2 => .jc b2⟩,
  ⟨0xFF, 0xE6, 2, fun _ b2 => .jnc b2⟩,
  ⟨0xFF, 0xC6, 2, fun _ b2 => .jz b2⟩,
  ⟨0xFF, 0x96, 2, fun _ b2 => .jnz b2⟩,
  ⟨0xFF, 0x36, 2, fun _ b2 => .jt0 b2⟩,
  ⟨0xFF, 0x26, 2, fun _ b2 => .jnt0 b2⟩,
  ⟨0xFF, 0x56, 2, fun _ b2 => .jt1 b2⟩,
  ⟨0xFF, 0x46, 2, fun _ b2 => .jnt1 b2⟩,
  ⟨0xFF, 0x16, 2, fun _ b2 => .jtf b2⟩,
  ⟨0xFF, 0x06, 2, fun _ b2 => .jntf b2⟩]

/-- Table 7, TIMER/EVENT COUNTER and CONTROL. -/
def timerControlRows : List Row := [
  ⟨0xFF, 0x42, 1, fun _ _ => .movAT⟩,
  ⟨0xFF, 0x62, 1, fun _ _ => .movTA⟩,
  ⟨0xFF, 0x45, 1, fun _ _ => .strtCnt⟩,
  ⟨0xFF, 0x55, 1, fun _ _ => .strtT⟩,
  ⟨0xFF, 0x65, 1, fun _ _ => .stopTcnt⟩,
  ⟨0xFF, 0x25, 1, fun _ _ => .enTcnti⟩,
  ⟨0xFF, 0x35, 1, fun _ _ => .disTcnti⟩,
  ⟨0xFF, 0x05, 1, fun _ _ => .enI⟩,
  ⟨0xFF, 0x15, 1, fun _ _ => .disI⟩,
  ⟨0xFF, 0xC5, 1, fun _ _ => .selRb0⟩,
  ⟨0xFF, 0xD5, 1, fun _ _ => .selRb1⟩,
  ⟨0xFF, 0xE5, 1, fun _ _ => .selMb0⟩,
  ⟨0xFF, 0xF5, 1, fun _ _ => .selMb1⟩,
  ⟨0xFF, 0xA5, 1, fun _ _ => .selMb2⟩,
  ⟨0xFF, 0xB5, 1, fun _ _ => .selMb3⟩,
  ⟨0xFF, 0x22, 1, fun _ _ => .stop⟩,
  ⟨0xFF, 0x01, 1, fun _ _ => .idle⟩]

/-- Table 7, SUBROUTINE. -/
def subroutineRows : List Row := [
  ⟨0x1F, 0x14, 2, fun op b2 => .call (topField op) b2⟩,
  ⟨0xFF, 0x83, 1, fun _ _ => .ret⟩,
  ⟨0xFF, 0x93, 1, fun _ _ => .retr⟩]

/-- Table 7, PARALLEL, DERIVATIVE and SERIAL INPUT/OUTPUT, and NOP. -/
def ioRows : List Row := [
  ⟨0xFF, 0x08, 1, fun _ _ => .inAP0⟩,
  ⟨0xFF, 0x09, 1, fun _ _ => .inAP1⟩,
  ⟨0xFF, 0x0A, 1, fun _ _ => .inAP2⟩,
  ⟨0xFF, 0x38, 1, fun _ _ => .outlP0A⟩,
  ⟨0xFF, 0x39, 1, fun _ _ => .outlP1A⟩,
  ⟨0xFF, 0x3A, 1, fun _ _ => .outlP2A⟩,
  ⟨0xFF, 0x98, 2, fun _ b2 => .anlP0Imm b2⟩,
  ⟨0xFF, 0x99, 2, fun _ b2 => .anlP1Imm b2⟩,
  ⟨0xFF, 0x9A, 2, fun _ b2 => .anlP2Imm b2⟩,
  ⟨0xFF, 0x88, 2, fun _ b2 => .orlP0Imm b2⟩,
  ⟨0xFF, 0x89, 2, fun _ b2 => .orlP1Imm b2⟩,
  ⟨0xFF, 0x8A, 2, fun _ b2 => .orlP2Imm b2⟩,
  ⟨0xFF, 0x8C, 2, fun _ b2 => .movADx b2⟩,
  ⟨0xFF, 0x8D, 2, fun _ b2 => .movDxA b2⟩,
  ⟨0xFF, 0x8E, 2, fun _ b2 => .anlDxA b2⟩,
  ⟨0xFF, 0x8F, 2, fun _ b2 => .orlDxA b2⟩,
  ⟨0xFF, 0x0C, 1, fun _ _ => .movAS0⟩,
  ⟨0xFF, 0x0D, 1, fun _ _ => .movAS1⟩,
  ⟨0xFF, 0x3C, 1, fun _ _ => .movS0A⟩,
  ⟨0xFF, 0x3D, 1, fun _ _ => .movS1A⟩,
  ⟨0xFF, 0x3E, 1, fun _ _ => .movS2A⟩,
  ⟨0xFF, 0x9C, 2, fun _ b2 => .movS0Imm b2⟩,
  ⟨0xFF, 0x9D, 2, fun _ b2 => .movS1Imm b2⟩,
  ⟨0xFF, 0x9E, 2, fun _ b2 => .movS2Imm b2⟩,
  ⟨0xFF, 0x85, 1, fun _ _ => .enSi⟩,
  ⟨0xFF, 0x95, 1, fun _ _ => .disSi⟩,
  ⟨0xFF, 0x00, 1, fun _ _ => .nop⟩]

/-- The opcode table: 106 rows (R105, R111). -/
def opcodeTable : List Row :=
  accumulatorRows ++ moveRows ++ flagRegisterRows ++ branchRows ++ timerControlRows ++ subroutineRows ++ ioRows

/-- The row of an opcode; none for the 32 opcodes of R107. -/
def lookupOpcode (op : Byte) : Option Row :=
  opcodeTable.find? fun row => op &&& row.mask == row.pat

/-- `length(op)` (R106); none for the 32 opcodes of R107. -/
def opcodeLength (op : Byte) : Option Nat := (lookupOpcode op).map Row.bytes

/-- Why bytes are no instruction. -/
inductive DecodeError where
  /-- There is no byte to decode. -/
  | noBytes
  /-- The opcode is one of the 32 that Table 7 leaves unassigned (R107). -/
  | unassigned (op : Byte)
  /-- A 2-byte instruction without its second byte. -/
  | missingOperand (op : Byte)
deriving DecidableEq, Repr

/-- The instruction at the head of the bytes and the bytes after it: the first byte alone decides the length and the
instruction (R100). -/
def decode : List Byte → Except DecodeError (Instr × List Byte)
  | [] => .error .noBytes
  | op :: rest =>
    match lookupOpcode op with
    | none => .error (.unassigned op)
    | some row =>
      if row.bytes = 2 then
        match rest with
        | [] => .error (.missingOperand op)
        | b2 :: rest' => .ok (row.build op b2, rest')
      else .ok (row.build op 0x00, rest)

/-- The opcode of a register form: the row's pattern with `rrr` in bits 2 to 0 (R101, F1R). -/
def regOp (pat : Byte) (r : RegNum) : Byte := pat ||| r.setWidth 8

/-- The opcode of a pointer form: the row's pattern with `r` in bit 0 (R101, F1I). -/
def ptrOp (pat : Byte) (p : PtrNum) : Byte := pat ||| p.setWidth 8

/-- The opcode of JMP, CALL and JBb: the row's pattern with the field in bits 7 to 5 (R101, F2J, F2B). -/
def topOp (pat : Byte) (f : BitVec 3) : Byte := pat ||| (f.setWidth 8 <<< 5)

/-- The bytes of an instruction, the opcode first (R101, R79). -/
def encode : Instr → List Byte
  | .addARr r => [regOp 0x68 r]
  | .addAInd p => [ptrOp 0x60 p]
  | .addAImm data => [0x03, data]
  | .addcARr r => [regOp 0x78 r]
  | .addcAInd p => [ptrOp 0x70 p]
  | .addcAImm data => [0x13, data]
  | .anlARr r => [regOp 0x58 r]
  | .anlAInd p => [ptrOp 0x50 p]
  | .anlAImm data => [0x53, data]
  | .orlARr r => [regOp 0x48 r]
  | .orlAInd p => [ptrOp 0x40 p]
  | .orlAImm data => [0x43, data]
  | .xrlARr r => [regOp 0xD8 r]
  | .xrlAInd p => [ptrOp 0xD0 p]
  | .xrlAImm data => [0xD3, data]
  | .incA => [0x17]
  | .decA => [0x07]
  | .clrA => [0x27]
  | .cplA => [0x37]
  | .rlA => [0xE7]
  | .rlcA => [0xF7]
  | .rrA => [0x77]
  | .rrcA => [0x67]
  | .daA => [0x57]
  | .swapA => [0x47]
  | .movARr r => [regOp 0xF8 r]
  | .movAInd p => [ptrOp 0xF0 p]
  | .movAImm data => [0x23, data]
  | .movRrA r => [regOp 0xA8 r]
  | .movIndA p => [ptrOp 0xA0 p]
  | .movRrImm r data => [regOp 0xB8 r, data]
  | .movIndImm p data => [ptrOp 0xB0 p, data]
  | .xchARr r => [regOp 0x28 r]
  | .xchAInd p => [ptrOp 0x20 p]
  | .xchdAInd p => [ptrOp 0x30 p]
  | .movAPsw => [0xC7]
  | .movPswA => [0xD7]
  | .movpAA => [0xA3]
  | .clrC => [0x97]
  | .cplC => [0xA7]
  | .incRr r => [regOp 0x18 r]
  | .incInd p => [ptrOp 0x10 p]
  | .decRr r => [regOp 0xC8 r]
  | .decInd p => [ptrOp 0xC0 p]
  | .jmp page addr => [topOp 0x04 page, addr]
  | .jmppA => [0xB3]
  | .djnzRr r addr => [regOp 0xE8 r, addr]
  | .djnzInd p addr => [ptrOp 0xE0 p, addr]
  | .jb b addr => [topOp 0x12 b, addr]
  | .jc addr => [0xF6, addr]
  | .jnc addr => [0xE6, addr]
  | .jz addr => [0xC6, addr]
  | .jnz addr => [0x96, addr]
  | .jt0 addr => [0x36, addr]
  | .jnt0 addr => [0x26, addr]
  | .jt1 addr => [0x56, addr]
  | .jnt1 addr => [0x46, addr]
  | .jtf addr => [0x16, addr]
  | .jntf addr => [0x06, addr]
  | .movAT => [0x42]
  | .movTA => [0x62]
  | .strtCnt => [0x45]
  | .strtT => [0x55]
  | .stopTcnt => [0x65]
  | .enTcnti => [0x25]
  | .disTcnti => [0x35]
  | .enI => [0x05]
  | .disI => [0x15]
  | .selRb0 => [0xC5]
  | .selRb1 => [0xD5]
  | .selMb0 => [0xE5]
  | .selMb1 => [0xF5]
  | .selMb2 => [0xA5]
  | .selMb3 => [0xB5]
  | .stop => [0x22]
  | .idle => [0x01]
  | .call page addr => [topOp 0x14 page, addr]
  | .ret => [0x83]
  | .retr => [0x93]
  | .inAP0 => [0x08]
  | .inAP1 => [0x09]
  | .inAP2 => [0x0A]
  | .outlP0A => [0x38]
  | .outlP1A => [0x39]
  | .outlP2A => [0x3A]
  | .anlP0Imm data => [0x98, data]
  | .anlP1Imm data => [0x99, data]
  | .anlP2Imm data => [0x9A, data]
  | .orlP0Imm data => [0x88, data]
  | .orlP1Imm data => [0x89, data]
  | .orlP2Imm data => [0x8A, data]
  | .movADx x => [0x8C, x]
  | .movDxA x => [0x8D, x]
  | .anlDxA x => [0x8E, x]
  | .orlDxA x => [0x8F, x]
  | .movAS0 => [0x0C]
  | .movAS1 => [0x0D]
  | .movS0A => [0x3C]
  | .movS1A => [0x3D]
  | .movS2A => [0x3E]
  | .movS0Imm data => [0x9C, data]
  | .movS1Imm data => [0x9D, data]
  | .movS2Imm data => [0x9E, data]
  | .enSi => [0x85]
  | .disSi => [0x95]
  | .nop => [0x00]

/-- The length of an instruction in bytes (R106). -/
def Instr.length (i : Instr) : Nat := (encode i).length

/-- The machine cycles of an instruction: the CYCLES column of Table 7 (R106, R410). -/
def Instr.cycles : Instr → Nat
  | .addARr _ | .addAInd _ | .addcARr _ | .addcAInd _ | .anlARr _ | .anlAInd _ | .orlARr _ | .orlAInd _
  | .xrlARr _ | .xrlAInd _ | .incA | .decA | .clrA | .cplA | .rlA | .rlcA | .rrA | .rrcA | .daA | .swapA
  | .movARr _ | .movAInd _ | .movRrA _ | .movIndA _ | .xchARr _ | .xchAInd _ | .xchdAInd _ | .movAPsw
  | .movPswA | .clrC | .cplC | .incRr _ | .incInd _ | .decRr _ | .decInd _ | .movAT | .movTA | .strtCnt
  | .strtT | .stopTcnt | .enTcnti | .disTcnti | .enI | .disI | .selRb0 | .selRb1 | .selMb0 | .selMb1
  | .selMb2 | .selMb3 | .stop | .idle | .enSi | .disSi | .nop => 1
  | .addAImm _ | .addcAImm _ | .anlAImm _ | .orlAImm _ | .xrlAImm _ | .movAImm _ | .movRrImm _ _
  | .movIndImm _ _ | .movpAA | .jmp _ _ | .jmppA | .djnzRr _ _ | .djnzInd _ _ | .jb _ _ | .jc _ | .jnc _
  | .jz _ | .jnz _ | .jt0 _ | .jnt0 _ | .jt1 _ | .jnt1 _ | .jtf _ | .jntf _ | .call _ _ | .ret | .retr
  | .inAP0 | .inAP1 | .inAP2 | .outlP0A | .outlP1A | .outlP2A | .anlP0Imm _ | .anlP1Imm _ | .anlP2Imm _
  | .orlP0Imm _ | .orlP1Imm _ | .orlP2Imm _ | .movADx _ | .movDxA _ | .anlDxA _ | .orlDxA _ | .movAS0
  | .movAS1 | .movS0A | .movS1A | .movS2A | .movS0Imm _ | .movS1Imm _ | .movS2Imm _ => 2

/-- The instruction the decoder reads from a table word: bit 0 of `w` is the least significant bit of the first byte and
the second byte is bits 15 to 8; the bits at or above `nbits` are 0. -/
def decodeTableWord (nbits w : Nat) : Option Instr :=
  match decode [BitVec.ofNat 8 (w % 2 ^ nbits), BitVec.ofNat 8 (w % 2 ^ nbits / 256)] with
  | .ok (i, _) => some i
  | .error _ => none

end Sys2Proof
end

