-- ==== Sys2Proof/Config.lean ====
section
/-! DEFINITION. What a device and the spec's open decisions fix (spec/00_scope.md R6, spec/92_eei_decisions.md
section 1), as plain data held in the state's field `cfg`, and the free values of the model. -/

namespace Sys2Proof

/-- The output stage of one port line, a mask option (spec/60_exceptions.md R340). -/
inductive PortOption where
  | standard
  | openDrain
  | pushPull
deriving DecidableEq, Repr

/-- `DA_RULE` (spec/40_accumulator.md R156, decision D7). -/
inductive DaRule where
  | datasheet
  | mcs48
deriving DecidableEq, Repr

/-- `PAGE_END_RULE` (spec/43_branch.md R191, decision D8). -/
inductive PageEndRule where
  | refuse
  | nextPage
deriving DecidableEq, Repr

/-- `S1_GATE` (spec/46_io.md R268, decision D20): which value of ESO gates a write of S1. -/
inductive S1Gate where
  | new
  | old
deriving DecidableEq, Repr

/-- "The derivative registers are write-only, read-only or read/write" (spec/10_state.md R50). -/
inductive DerivAccess where
  | readOnly
  | writeOnly
  | readWrite
deriving DecidableEq, Repr

/-- What a derivative register is (spec/10_state.md R50, spec/46_io.md R263). -/
inductive DerivKind where
  /-- A register of the derivative logic, which the logic may change. -/
  | register
  /-- A derivative port flip-flop: it keeps what was written. -/
  | portFlipFlop
  /-- The line address of a derivative port: read only; the address of its flip-flop, and its push-pull lines. -/
  | portLine (flipFlop pushPull : Byte)
deriving DecidableEq, Repr

/-- What an access to a derivative register does to the interrupt request of the logic (spec/60_exceptions.md R368: it is
"de-activated by software"). -/
inductive RequestEffect where
  | keep
  | raise
  | clear
deriving DecidableEq, Repr

/-- The derivative registers at the addresses `lo` to `hi` (R50: addresses, widths, access rights, reset values and side
effects are the device's; log 30). -/
structure DerivRange where
  lo : Byte
  hi : Byte
  kind : DerivKind
  access : DerivAccess
  /-- The bits the register has. -/
  mask : Byte
  /-- What the bits it does not have read as. -/
  unused : Byte
  resetValue : Byte
  onRead : RequestEffect
  onWrite : RequestEffect
deriving DecidableEq, Repr

/-- The argument `DERIV` (spec/00_scope.md R6, decision D24): a map of registers and ports, where an address outside every
range is not implemented, or any device at all, by a number (`Config.derivDevice`; log 30). -/
inductive DerivLogic where
  | registers (map : List DerivRange)
  | device (n : Nat)
deriving DecidableEq, Repr

/-- The parameters of spec/00_scope.md R6 and of spec/92_eei_decisions.md section 1. -/
structure Config where
  /-- `ROM_SIZE`, in bytes. -/
  romSize : Nat
  /-- `RAM_SIZE`, in bytes. -/
  ramSize : Nat
  /-- `HAS_P1`. -/
  hasP1 : Bool
  /-- `HAS_P2`. -/
  hasP2 : Bool
  /-- `HAS_I2C`. -/
  hasI2C : Bool
  /-- `HAS_DERIV`. -/
  hasDeriv : Bool
  /-- `DERIV`. -/
  derivLogic : DerivLogic
  /-- `PORT_OPTION[0]`, line by line. -/
  option0 : Vector PortOption 8
  /-- `PORT_OPTION[1]`, line by line. -/
  option1 : Vector PortOption 8
  /-- `PORT_OPTION[2]` for P2.0 to P2.2; SDA/P2.3 is open-drain on every device (R340). -/
  option2 : Vector PortOption 3
  /-- `PORT_RESET[0]`. -/
  portReset0 : Byte
  /-- `PORT_RESET[1]`. -/
  portReset1 : Byte
  /-- `PORT_RESET[2]` for P2.0 to P2.2; SDA/P2.3 is 1 on every device (R54). -/
  portReset2 : BitVec 3
  /-- `F_XTAL`, in hertz: it fixes real time only. -/
  fXtal : Nat
  /-- `STACK_PSW_BYTE_AT_EVEN` (D5, open). -/
  stackPswByteAtEven : Bool
  /-- `DA_RULE` (D7). -/
  daRule : DaRule
  /-- `PAGE_END_RULE` (D8). -/
  pageEndRule : PageEndRule
  /-- `STRT_CNT_LOADS_FF` (D13). -/
  strtCntLoadsFF : Bool
  /-- `EXT_LATCH_WHEN_DISABLED` (D10). -/
  extLatchWhenDisabled : Bool
  /-- `S1_GATE` (D20). -/
  s1Gate : S1Gate
  /-- `INT_ENTRY_CYCLES` (D12). -/
  intEntryCycles : Nat
deriving DecidableEq, Repr

/-- The ranges R6 gives for the sizes and the clock. -/
def Config.wf (c : Config) : Bool :=
  decide (1 ≤ c.romSize) && decide (c.romSize ≤ 8192) && decide (32 ≤ c.ramSize) && decide (c.ramSize ≤ 256)
    && decide (1000000 ≤ c.fXtal) && decide (c.fXtal ≤ 16000000)

/-- The device of `State.reset`: the largest memories, every port, the I2C-bus interface, derivative logic with a
read/write register at every address, the set option on every line, and the spec's default for every parameter that has
one (DESIGN CHOICE, log 1). Two parameters have no default: `stackPswByteAtEven` (log 18), and F_XTAL, for which R6 gives
1 MHz to 16 MHz and the model takes 10 MHz (DESIGN CHOICE, log 34). -/
def Config.full : Config where
  romSize := 8192
  ramSize := 256
  hasP1 := true
  hasP2 := true
  hasI2C := true
  hasDeriv := true
  derivLogic := .registers [{ lo := 0x00, hi := 0xFF, kind := .register, access := .readWrite, mask := 0xFF,
                              unused := 0x00, resetValue := 0x00, onRead := .keep, onWrite := .keep }]
  option0 := Vector.replicate 8 .standard
  option1 := Vector.replicate 8 .standard
  option2 := Vector.replicate 3 .standard
  portReset0 := 0xFF
  portReset1 := 0xFF
  portReset2 := 0b111
  fXtal := 10000000
  stackPswByteAtEven := true
  daRule := .mcs48
  pageEndRule := .refuse
  strtCntLoadsFF := false
  extLatchWhenDisabled := true
  s1Gate := .new
  intEntryCycles := 2

/-- The byte of the n-th draw of a free value: nothing is known of it (spec/10_state.md R55; log 4). -/
opaque Config.freeByte : Nat → Byte

/-- The bit of the n-th draw of a free value: nothing is known of it (R55, R156, R253; log 4, log 19, log 20). -/
opaque Config.freeBit : Nat → Bool

end Sys2Proof
end

