-- ==== Sys2Proof/Machine/Memory.lean ====
section
/-! DEFINITION. Memory as a list of (address, byte) pairs in one canonical form: program memory, data memory and the
derivative registers are each one (spec/20_memory.md R70). -/

namespace Sys2Proof.Machine

/-- Memory: (address, byte) pairs, addresses strictly rising, no entry equal to `unwrittenByte`. -/
abbrev Memory := List Host.Cell

/-- What a byte that no entry lists reads as: 00H (DESIGN CHOICE; data memory: log 3, program memory: log 11). -/
def unwrittenByte : Byte := 0x00

/-- The byte at an address. -/
def Memory.read : Memory → Nat → Byte
  | [], _ => unwrittenByte
  | (k, w) :: m, a => if k = a then w else Memory.read m a

/-- Put a byte at an address, keeping the canonical form: a byte equal to `unwrittenByte` is not listed. -/
def Memory.write : Memory → Nat → Byte → Memory
  | [], a, v => if v = unwrittenByte then [] else [(a, v)]
  | (k, w) :: m, a, v =>
    if a < k then (if v = unwrittenByte then (k, w) :: m else (a, v) :: (k, w) :: m)
    else if a = k then (if v = unwrittenByte then m else (a, v) :: m)
    else (k, w) :: Memory.write m a v

/-- Every entry is at an address above `lo`, in strictly rising order, and none is `unwrittenByte`. -/
def Memory.wfAbove (lo : Nat) : Memory → Bool
  | [] => true
  | (k, w) :: m => decide (lo ≤ k) && decide (w ≠ unwrittenByte) && Memory.wfAbove (k + 1) m

/-- The canonical form. -/
def Memory.wf (m : Memory) : Bool := Memory.wfAbove 0 m

/-- No entry is at or above `n`. -/
def Memory.below (n : Nat) (m : Memory) : Bool := m.all fun c => decide (c.1 < n)

end Sys2Proof.Machine
end

