-- ==== Sys2Proof/Machine/Derivative.lean ====
section
/-! DEFINITION. Derivative logic (spec/60_exceptions.md R368, decision D24): `DERIV` is an argument of the model that supplies a
state, a read function, a write function, a step function and the predicate "requests an interrupt" (`DerivModel`); a device
given by a map of registers and ports is one such argument (`registersModel`), and `Config.derivDevice` stands for every other
one (log 30). -/

namespace Sys2Proof

namespace Machine

/-! ### What DERIV supplies -/

/-- The state of the derivative logic: its registers by address, its interrupt request, and whatever else it holds, as a
number. -/
structure DerivState where
  regs : Memory
  request : Bool
  inner : Nat
deriving DecidableEq, Repr, Inhabited

/-- What makes the derivative logic step. -/
inductive DerivInput where
  /-- A register changes, or the environment puts these levels on the lines at this line address. -/
  | set (x v : Byte)
  /-- The interrupt request is raised or removed. -/
  | request (b : Bool)
  /-- Anything else. -/
  | other (n : Nat)
deriving DecidableEq, Repr

/-- What an access or a step does to the derivative logic: the registers it changes, in order, and the rest afterwards. -/
structure DerivEffect where
  writes : List (Byte × Byte)
  request : Bool
  inner : Nat
deriving DecidableEq, Repr, Inhabited

/-- The state after the effect. -/
def DerivEffect.apply (e : DerivEffect) (d : DerivState) : DerivState where
  regs := e.writes.foldl (fun m w => m.write w.1.toNat w.2) d.regs
  request := e.request
  inner := e.inner

/-- No effect. -/
def DerivState.unchanged (d : DerivState) : DerivEffect where
  writes := []
  request := d.request
  inner := d.inner

/-- `DERIV` (D24). `readable` and `writable` say which accesses it defines (spec/46_io.md R263); `onReset` is its effect on
empty registers at a reset. -/
structure DerivModel where
  readable : Byte → Bool
  writable : Byte → Bool
  read : DerivState → Byte → Byte × DerivEffect
  write : DerivState → Byte → Byte → DerivEffect
  step : DerivState → DerivInput → DerivEffect
  requests : DerivState → Bool
  onReset : DerivState → DerivEffect
deriving Inhabited

/-! ### A map of registers and ports -/

/-- `PortLine(p)` (spec/60_exceptions.md R341), line by line: 0 where the flip-flop is 0; 1 where it is 1 and the line is
push-pull; else the level the environment puts on the line. A derivative port has "flip-flops of the same kind"
(spec/10_state.md R43). -/
def portLine {n : Nat} (pff pushPull ext : BitVec n) : BitVec n := pff &&& (pushPull ||| ext)

/-- The range that holds the address; none where the device implements no register. -/
def derivRange (map : List DerivRange) (x : Byte) : Option DerivRange :=
  map.find? fun r => decide (r.lo ≤ x) && decide (x ≤ r.hi)

/-- The range is the line address of a derivative port. -/
def isPortLine (r : DerivRange) : Bool :=
  match r.kind with
  | .register | .portFlipFlop => false
  | .portLine _ _ => true

/-- What the address gives: the register's content, or the lines of the port; and the fixed value of the bits it does not
have. -/
def derivValue (r : DerivRange) (regs : Memory) (x : Byte) : Byte :=
  let v :=
    match r.kind with
    | .register | .portFlipFlop => regs.read x.toNat
    | .portLine flipFlop pushPull => portLine (regs.read flipFlop.toNat) pushPull (regs.read x.toNat)
  v &&& r.mask ||| r.unused &&& ~~~r.mask

/-- The interrupt request after an access. -/
def requestAfter (q : RequestEffect) (b : Bool) : Bool :=
  match q with
  | .keep => b
  | .raise => true
  | .clear => false

/-- A read: the value, and the effect on the request. -/
def registersRead (map : List DerivRange) (d : DerivState) (x : Byte) : Byte × DerivEffect :=
  match derivRange map x with
  | none => (unwrittenByte, d.unchanged)
  | some r => (derivValue r d.regs x, { d.unchanged with request := requestAfter r.onRead d.request })

/-- A write: the bits that the register has, and the effect on the request. -/
def registersWrite (map : List DerivRange) (d : DerivState) (x v : Byte) : DerivEffect :=
  match derivRange map x with
  | none => d.unchanged
  | some r => { d.unchanged with writes := [(x, v &&& r.mask)], request := requestAfter r.onWrite d.request }

/-- A step: the logic changes a register of its own, the environment the levels of a port's lines, or the request changes; a
flip-flop "remains unchanged until rewritten" (R43). -/
def registersStep (map : List DerivRange) (d : DerivState) : DerivInput → DerivEffect
  | .set x v =>
    match derivRange map x with
    | none => d.unchanged
    | some r => if r.kind = .portFlipFlop then d.unchanged else { d.unchanged with writes := [(x, v &&& r.mask)] }
  | .request b => { d.unchanged with request := b }
  | .other _ => d.unchanged

/-- A reset: every register at its reset value, no request (log 31); the levels on the lines are the environment's and
stay. -/
def registersReset (map : List DerivRange) (d : DerivState) : DerivEffect where
  writes := (List.range 256).filterMap fun a =>
    let x := BitVec.ofNat 8 a
    (derivRange map x).map fun r => (x, if isPortLine r then d.regs.read a else r.resetValue &&& r.mask)
  request := false
  inner := 0

/-- The `DERIV` that a map of registers and ports describes. A line address is read only (spec/46_io.md R263). -/
def registersModel (map : List DerivRange) : DerivModel where
  readable x := (derivRange map x).any fun r => decide (r.access ≠ .writeOnly)
  writable x := (derivRange map x).any fun r => decide (r.access ≠ .readOnly) && !isPortLine r
  read := registersRead map
  write := registersWrite map
  step := registersStep map
  requests d := d.request
  onReset := registersReset map

end Machine

/-- Any other `DERIV`: nothing is known of it, so what is proved of a device with this logic holds of every derivative logic
(log 30). -/
opaque Config.derivDevice : Nat → Machine.DerivModel

namespace Machine

/-- The argument `DERIV` of the device. -/
def derivModel (c : Config) : DerivModel :=
  match c.derivLogic with
  | .registers map => registersModel map
  | .device n => Config.derivDevice n

end Machine

/-- The derivative register at `x` exists and may be read (spec/46_io.md R263). -/
def Config.derivReadable (c : Config) (x : Byte) : Bool := c.hasDeriv && (Machine.derivModel c).readable x

/-- The derivative register at `x` exists and may be written (R263). -/
def Config.derivWritable (c : Config) (x : Byte) : Bool := c.hasDeriv && (Machine.derivModel c).writable x

end Sys2Proof
end

