-- ==== Sys2Proof/Machine/State.lean ====
section
/-! DEFINITION. The state of the machine (spec/10_state.md R20), the ways the model stops (spec/60_exceptions.md R301)
and the state after reset (R54, R55). INVENTORY.md, State, gives each field's rule and reset value. -/

namespace Sys2Proof.Machine

/-- `MODE` (R51). -/
inductive PowerMode where
  | normal
  | idle
  | stop
deriving DecidableEq, Repr

/-- `TMODE` (R37). -/
inductive TimerMode where
  | stopped
  | timer
  | counter
deriving DecidableEq, Repr

/-- The bus condition that a write of S1 last made the interface generate (spec/60_exceptions.md R357): the model's own
record of the effect on the wires (log 27). -/
inductive BusCondition where
  | none
  | start
  | stop
deriving DecidableEq, Repr

/-- The registers of the I2C-bus interface and its hidden state (R44 to R49, R57). -/
structure I2C where
  /-- Data shift register S0 (R45). -/
  s0 : Byte
  /-- Address register S0': bits 7 to 1 the address A6 to A0, bit 0 ALS (R46). -/
  s0a : Byte
  mst : Bool
  trx : Bool
  bb : Bool
  /-- Pending Interrupt Not: false is a pending request. -/
  pin : Bool
  eso : Bool
  /-- BC2 to BC0. -/
  bc : BitVec 3
  al : Bool
  aas : Bool
  ad0 : Bool
  lrb : Bool
  /-- Clock control register S2 without its unused bit 7: ACK, ASC, CC4 to CC0 (R49; log 33). -/
  s2 : BitVec 7
  /-- `I2C_SELECTED`, the "addressed slave" condition (R57). -/
  selected : Bool
  /-- `BCNT`, the count of bits still to shift (R57). -/
  bcnt : BitVec 4
  /-- A start or stop condition came while PIN = 0, and AD0 is cleared when PIN is cancelled: the model's own (R355, R360;
  log 45). -/
  ad0Due : Bool
  /-- The arbitration was lost in the byte that is still being transferred, at whose end PIN is cleared: the model's own (R358;
  log 29). -/
  lostByte : Bool
  /-- S0 has been shifted out since it was last loaded: the model's own (R351, R366; log 46). -/
  spent : Bool
  /-- The byte being sent: the one S0 held at a generated start condition, or the one last written to S0 since, also in the
  middle of a transfer: the model's own (R351, R356; log 27, log 47). -/
  txByte : Byte
  lastCond : BusCondition
deriving DecidableEq, Repr

/-- "S0, S0', S1 and S2 cleared except for PIN = 1" (R44, R54). -/
def I2C.reset : I2C where
  s0 := 0x00
  s0a := 0x00
  mst := false
  trx := false
  bb := false
  pin := true
  eso := false
  bc := 0
  al := false
  aas := false
  ad0 := false
  lrb := false
  s2 := 0
  selected := false
  bcnt := 0
  ad0Due := false
  lostByte := false
  spent := false
  txByte := 0x00
  lastCond := .none

/-- The inputs that are levels (R52): RESET (active HIGH), INT/T0, T1, and the level the environment would put on each
port line if the chip did not drive it LOW (`ext`, R341). -/
structure Pins where
  reset : Bool
  t0 : Bool
  t1 : Bool
  ext0 : Byte
  ext1 : Byte
  ext2 : BitVec 4
deriving DecidableEq, Repr

/-- What the environment and the device agents may do between two steps (R52, R90; R310, R331, R366, R368; log 7). An
event that its rule does not allow at that moment has no effect (`applyEvent`). -/
inductive EnvEvent where
  /-- The RESET pin takes a level (spec/70_reset_and_hazards.md R400). -/
  | resetLevel (level : Bool)
  /-- INT/T0 takes a level without a qualified edge. -/
  | t0Level (level : Bool)
  /-- `ext_edge`: a qualified HIGH-to-LOW transition on INT/T0 (R310). -/
  | extEdge
  /-- T1 takes a level without a qualified edge. -/
  | t1Level (level : Bool)
  /-- `t1_edge`: a qualified LOW-to-HIGH transition on T1 (R331). -/
  | t1Edge
  /-- The environment's levels on the lines of Port 0. -/
  | port0Ext (v : Byte)
  /-- The environment's levels on the lines of Port 1. -/
  | port1Ext (v : Byte)
  /-- The environment's levels on the lines of Port 2. -/
  | port2Ext (v : BitVec 4)
  /-- A start condition is seen on the bus. -/
  | i2cStart
  /-- The first byte after a start condition is complete: a slave's received byte, and the last bit transferred. -/
  | i2cFirstByte (b : Byte) (last : Bool)
  /-- `byte_done`: a transfer is complete; what S0 then holds and the last bit transferred. -/
  | i2cByteDone (b : Byte) (last : Bool)
  /-- A bit is shifted; what S0 then holds and the bit. -/
  | i2cBit (b : Byte) (last : Bool)
  /-- The interface loses the arbitration. -/
  | i2cArbitrationLost
  /-- A stop condition is seen on the bus. -/
  | i2cStop
  /-- The derivative logic steps, on this input (R368). -/
  | derivStep (i : DerivInput)
deriving DecidableEq, Repr

/-- The whole state of the machine (R20), its inputs, its configuration and the model's own counters. -/
structure State where
  /-- The parameters of the device (spec/00_scope.md R6); no step changes them. -/
  cfg : Config
  /-- Program memory, constant for a run (R35). -/
  rom : Memory
  /-- Data memory: working registers, stack and user RAM (R22 to R26). -/
  ram : Memory
  /-- Accumulator (R21). -/
  a : Byte
  /-- PSW bit 7 (R28). -/
  cy : Bool
  /-- PSW bit 6 (R29). -/
  ac : Bool
  /-- PSW bit 4 (R30). -/
  rbs : Bool
  /-- PSW bit 3 (R30). -/
  ps : Bool
  /-- Stack Pointer, PSW bits 2 to 0 (R31). -/
  sp : BitVec 3
  /-- Program Counter (R32, R33). -/
  pc : CodeAddr
  /-- Memory bank flip-flop 0 (R34). -/
  mbff0 : Bool
  /-- Memory bank flip-flop 1 (R34). -/
  mbff1 : Bool
  /-- Timer/event counter 1 (R36). -/
  t : Byte
  /-- Prescaler (R37). -/
  pre : BitVec 5
  tmode : TimerMode
  /-- Timer Flag (R38). -/
  tf : Bool
  /-- External interrupt enable (R39). -/
  ei : Bool
  /-- I2C-bus/derivative interrupt enable (R39). -/
  si : Bool
  /-- Timer/event counter interrupt enable (R39). -/
  ti : Bool
  /-- The digital filter/latch of INT/T0 (R40). -/
  xlatch : Bool
  /-- External Interrupt Flag (R40). -/
  eif : Bool
  /-- Timer Interrupt Flag (R41). -/
  tif : Bool
  /-- Interrupt In Progress (R42). -/
  iip : Bool
  /-- `RETR_SHADOW` (R42, R320). -/
  retrShadow : Bool
  /-- Port 0 flip-flops (R43). -/
  pff0 : Byte
  /-- Port 1 flip-flops (R43). -/
  pff1 : Byte
  /-- Port 2 flip-flops, bit 3 SDA/P2.3 (R43). -/
  pff2 : BitVec 4
  i2c : I2C
  /-- The state of the derivative logic: its registers, its request, the rest (R50, R312, R368). -/
  deriv : DerivState
  mode : PowerMode
  pins : Pins
  /-- INT/T0 has been HIGH since the last qualified edge: the model's own (R310; log 22). -/
  t0High : Bool
  /-- What happens between the coming steps, one list of events a step: the model's own (log 7). -/
  env : List (List EnvEvent)
  /-- How many free values have been drawn: the model's own (log 4). -/
  draws : Nat
deriving DecidableEq, Repr

/-- Where the model stops at an address that the spec says does not exist (spec/20_memory.md R77, R78; decision D4).
Safe: the spec gives no behaviour there, and no run goes on past it. -/
inductive Fault where
  /-- An instruction fetch at or above ROM_SIZE (R77). Raised by the fetch. Safe. -/
  | fetchBeyondRom (addr : CodeAddr)
  /-- A table read of MOVP A,@A or JMPP @A at or above ROM_SIZE (R77). Raised by those two. Safe. -/
  | tableBeyondRom (addr : CodeAddr)
  /-- A data access at or above RAM_SIZE (R78). Raised by every @Rr form. Safe. -/
  | dataBeyondRam (addr : Byte)
deriving DecidableEq, Repr

/-- Where the spec refuses to give a behaviour (spec/60_exceptions.md R301). Safe: no run goes on past it. -/
inductive Refusal where
  /-- Raised by an arm of `exec` whose instruction has no meaning yet; no arm is left so. Safe. -/
  | notModelled (mnemonic : String)
  /-- `IllegalOpcode`: the byte fetched is one of the 32 unassigned opcodes (R107). Raised by the fetch. Safe. -/
  | illegalOpcode (op : Byte)
  /-- "page-end branch" under `PAGE_END_RULE` = refuse (spec/43_branch.md R191). Raised by a taken in-page branch, JMPP
  and MOVP. Safe. -/
  | pageEnd
  /-- "RET to another bank during interrupt" (spec/45_subroutine.md R243). Raised by RET. Safe. -/
  | retToOtherBank
  /-- "port absent" (spec/46_io.md R250). Raised by the instructions of Port 1 and Port 2. Safe. -/
  | portAbsent
  /-- "no I2C-bus interface" (R268). Raised by the eight moves of S0, S1 and S2. Safe. -/
  | noI2C
  /-- "derivative access" (R263). Raised by the four derivative instructions. Safe. -/
  | derivAccess
  /-- "S1 written with PIN = 0" (R268, decision D20). Raised by MOV S1,A and MOV S1,#data. Safe. -/
  | s1PinZero
deriving DecidableEq, Repr

/-- What an operation that may stop answers. -/
abbrev Result (α : Type) := Host.Outcome α Fault Refusal

/-- The machine right after reset (R54), on the device `Config.full`; for what the spec leaves open (A, CY, AC, PRE, RAM:
R55) and for the inputs the values are the log's (log 1 to 8, 22, 27, 30, 31). -/
def State.reset : State where
  cfg := Config.full
  rom := []
  ram := []
  a := 0x00
  cy := false
  ac := false
  rbs := false
  ps := false
  sp := 0
  pc := 0x0000
  mbff0 := false
  mbff1 := false
  t := 0x00
  pre := 0
  tmode := .stopped
  tf := false
  ei := false
  si := false
  ti := false
  xlatch := false
  eif := false
  tif := false
  iip := false
  retrShadow := false
  pff0 := 0xFF
  pff1 := 0xFF
  pff2 := 0xF
  i2c := I2C.reset
  deriv := { regs := [], request := false, inner := 0 }
  mode := .normal
  pins := { reset := false, t0 := true, t1 := false, ext0 := 0xFF, ext1 := 0xFF, ext2 := 0xF }
  t0High := true
  env := []
  draws := 0

/-! Named updates, for the fields that several instructions write. -/

def State.setA (s : State) (v : Byte) : State := { s with a := v }

def State.setCy (s : State) (c : Bool) : State := { s with cy := c }

def State.setPc (s : State) (p : CodeAddr) : State := { s with pc := p }

def State.setSp (s : State) (n : BitVec 3) : State := { s with sp := n }

def State.setRam (s : State) (m : Memory) : State := { s with ram := m }

def State.setI2c (s : State) (c : I2C) : State := { s with i2c := c }

def State.setDeriv (s : State) (d : DerivState) : State := { s with deriv := d }

def State.setPins (s : State) (p : Pins) : State := { s with pins := p }

def State.setDraws (s : State) (n : Nat) : State := { s with draws := n }

end Sys2Proof.Machine
end

