-- ==== Sys2Proof/Machine/Flags.lean ====
section
/-! DEFINITION. Every flag computation of the spec: addition with its two flags (spec/40_accumulator.md R131), the
rotates through carry (R153, R155), the decimal adjustment (R156), the PSW (spec/10_state.md R27) and the byte of the
stack that carries PSW bits (R26). -/

namespace Sys2Proof.Machine

/-- What an addition gives: the sum and the two flags. -/
structure Sum where
  result : Byte
  cy : Bool
  ac : Bool
deriving DecidableEq, Repr

/-- `add8(a, v, c)` (R131): the exact sum, its low 8 bits, the carry out of bit 7 and the carry out of bit 3. -/
def add8 (a v : Byte) (c : Bool) : Sum where
  result := BitVec.ofNat 8 (a.toNat + v.toNat + c.toNat)
  cy := decide (256 ≤ a.toNat + v.toNat + c.toNat)
  ac := decide (16 ≤ a.toNat % 16 + v.toNat % 16 + c.toNat)

/-- RL (R152): `A[6:0] ++ A[7]`. -/
def rotateLeft (a : Byte) : Byte := a.extractLsb' 0 7 ++ a.extractLsb' 7 1

/-- RR (R154): `A[0] ++ A[7:1]`. -/
def rotateRight (a : Byte) : Byte := a.extractLsb' 0 1 ++ a.extractLsb' 1 7

/-- RLC (R153): `A[6:0] ++ CY`. -/
def rotateLeftCarry (a : Byte) (cy : Bool) : Byte := a.extractLsb' 0 7 ++ BitVec.ofBool cy

/-- RRC (R155): `CY ++ A[7:1]`. -/
def rotateRightCarry (a : Byte) (cy : Bool) : Byte := BitVec.ofBool cy ++ a.extractLsb' 1 7

/-- SWAP (R157): `A[3:0] ++ A[7:4]`. -/
def swapNibbles (a : Byte) : Byte := a.extractLsb' 0 4 ++ a.extractLsb' 4 4

/-- The condition of the first decimal adjustment: `AC = 1 or A[3:0] > 9` (R156). -/
def daLowNeeded (a : Byte) (ac : Bool) : Bool := ac || decide (9 < a.toNat % 16)

/-- The Accumulator after the first decimal adjustment (R156). -/
def daLow (a : Byte) (ac : Bool) : Byte := if daLowNeeded a ac then a + 0x06 else a

/-- `DA_RULE` = datasheet (R156): the Accumulator; the rule gives no CY. -/
def daDatasheet (a : Byte) (ac : Bool) : Byte :=
  if 9 < (daLow a ac).toNat / 16 then daLow a ac + 0x60 else daLow a ac

/-- `DA_RULE` = mcs48 (R156; PRESUMED there, log 19): the running carry after the first adjustment. -/
def daCarry (a : Byte) (cy ac : Bool) : Bool := cy || (daLowNeeded a ac && decide (0xFF < a.toNat + 0x06))

/-- `DA_RULE` = mcs48: the condition of the second adjustment, which is also the new CY (R156). -/
def daHighNeeded (a : Byte) (cy ac : Bool) : Bool := daCarry a cy ac || decide (9 < (daLow a ac).toNat / 16)

/-- `DA_RULE` = mcs48: the Accumulator (R156). -/
def daMcs48 (a : Byte) (cy ac : Bool) : Byte :=
  if daHighNeeded a cy ac then daLow a ac + 0x60 else daLow a ac

/-- `PSW = CY ++ AC ++ 1 ++ RBS ++ PS ++ SP[2:0]` (spec/10_state.md R27). -/
def pswByte (s : State) : Byte :=
  BitVec.ofBool s.cy ++ BitVec.ofBool s.ac ++ 1#1 ++ BitVec.ofBool s.rbs ++ BitVec.ofBool s.ps ++ s.sp

/-- The stacked byte `HI = CY ++ AC ++ PC[12] ++ RBS ++ PC[11:8]` (R26). -/
def stackHi (cy ac rbs : Bool) (ret : CodeAddr) : Byte :=
  BitVec.ofBool cy ++ BitVec.ofBool ac ++ ret.extractLsb' 12 1 ++ BitVec.ofBool rbs ++ ret.extractLsb' 8 4

/-- The stacked byte `LO = PC[7:0]` (R26). -/
def stackLo (ret : CodeAddr) : Byte := ret.extractLsb' 0 8

/-- The return address of a level: `HI[5] ++ HI[3:0] ++ LO` (spec/45_subroutine.md R241). -/
def stackRet (hi lo : Byte) : CodeAddr := hi.extractLsb' 5 1 ++ hi.extractLsb' 0 4 ++ lo

end Sys2Proof.Machine
end

