-- ==== Sys2Proof/Machine/Ops.lean ====
section
/-! DEFINITION. The shared operations: sequencing, memory, the Program Counter, the stack (spec/45_subroutine.md R240,
R241), the request flip-flops of INT/T0 (spec/60_exceptions.md R311), taking an interrupt (R315) and returning from one
(R244). -/

namespace Sys2Proof.Machine

/-- Go on with the value of an operation that did not stop. -/
def andThen {α β : Type} (x : Result α) (f : α → Result β) : Result β :=
  match x with
  | .next v => f v
  | .fault e => .fault e
  | .refused e => .refused e

/-! ### Memory -/

/-- `MemRead(a, 1)` (spec/20_memory.md R78): data memory at an 8-bit address. -/
def memRead (s : State) (a : Byte) : Result Byte :=
  if a.toNat < s.cfg.ramSize then .next (s.ram.read a.toNat) else .fault (.dataBeyondRam a)

/-- `MemWrite(a, 1, v)` (R78). -/
def memWrite (s : State) (a v : Byte) : Result State :=
  if a.toNat < s.cfg.ramSize then .next (s.setRam (s.ram.write a.toNat v)) else .fault (.dataBeyondRam a)

/-- The byte of program memory at an address the device implements (R77). -/
def romByte (s : State) (p : CodeAddr) : Byte := s.rom.read p.toNat

/-- The device implements the program memory address (R77). -/
def inRom (s : State) (p : CodeAddr) : Bool := decide (p.toNat < s.cfg.romSize)

/-! ### Program Counter -/

/-- `inc11` (spec/10_state.md R32): the low 11 bits count and wrap, the top 2 bits stay. -/
def inc11 (p : CodeAddr) : CodeAddr := p.extractLsb' 11 2 ++ (p.extractLsb' 0 11 + 1#11)

/-! ### Stack -/

/-- The first location of a stack level: `8 + 2n` (R25). -/
def levelBase (n : BitVec 3) : Nat := 8 + 2 * n.toNat

/-- The location of a level that holds `HI`, and the one that holds `LO` (R26, parameter `STACK_PSW_BYTE_AT_EVEN`). -/
def hiAddr (c : Config) (n : BitVec 3) : Nat := if c.stackPswByteAtEven then levelBase n else levelBase n + 1

@[inherit_doc hiAddr]
def loAddr (c : Config) (n : BitVec 3) : Nat := if c.stackPswByteAtEven then levelBase n + 1 else levelBase n

/-- `push(ret)` (spec/45_subroutine.md R240). -/
def push (s : State) (ret : CodeAddr) : State :=
  (s.setRam ((s.ram.write (hiAddr s.cfg s.sp) (stackHi s.cy s.ac s.rbs ret)).write (loAddr s.cfg s.sp) (stackLo ret))).setSp
    (s.sp + 1)

/-- What a pop gives (R241). -/
structure Popped where
  ret : CodeAddr
  cy : Bool
  ac : Bool
  rbs : Bool
deriving DecidableEq, Repr

/-- The contents of stack level `n` as a pop reads them (R241): the level below the Stack Pointer is `s.sp - 1`. -/
def stackLevel (s : State) (n : BitVec 3) : Popped :=
  let hi := s.ram.read (hiAddr s.cfg n)
  { ret := stackRet hi (s.ram.read (loAddr s.cfg n))
    cy := hi.getLsbD 7
    ac := hi.getLsbD 6
    rbs := hi.getLsbD 4 }

/-! ### Interrupts -/

/-- The interrupt sources, the highest priority first (spec/60_exceptions.md R305). -/
inductive IntSource where
  | external
  | serial
  | timer
deriving DecidableEq, Repr

/-- The vector of a source (R305). -/
def IntSource.vector : IntSource → CodeAddr
  | .external => 0x0003
  | .serial => 0x0005
  | .timer => 0x0007

/-- The PIN line is LOW (R312). -/
def pinLineLow (s : State) : Bool := (s.cfg.hasI2C && !s.i2c.pin) || (s.cfg.hasDeriv && (derivModel s.cfg).requests s.deriv)

/-- The request condition of a source (R305, R312, R313). -/
def requests (s : State) : IntSource → Bool
  | .external => s.eif
  | .serial => s.si && pinLineLow s
  | .timer => s.tif

/-- The highest-priority source that requests (R305). -/
def pendingSource (s : State) : Option IntSource :=
  if requests s .external then some .external
  else if requests s .serial then some .serial
  else if requests s .timer then some .timer
  else none

/-- The interrupt that is taken at this instruction boundary: the pending one, unless an interrupt is in progress or the
hold-off of R320 is on (`acceptable`, R319). -/
def acceptedSource (s : State) : Option IntSource :=
  if s.iip || s.retrShadow then none else pendingSource s

/-- The request flip-flops that taking an interrupt clears (R305, R315). -/
def clearRequest (s : State) : IntSource → State
  | .external => { s with eif := false, xlatch := false }
  | .serial => s
  | .timer => { s with tif := false }

/-- Taking an interrupt, the forced CALL (R315): push PC, CY, AC and RBS; IIP is set; the source's request flip-flop is
cleared; PC takes the vector; Idle mode ends. -/
def takeInterrupt (s : State) (src : IntSource) : State :=
  { clearRequest (push s s.pc) src with
    iip := true
    pc := src.vector
    mode := if s.mode = .idle then .normal else s.mode }

/-- Return from an interrupt (spec/45_subroutine.md R244): pop the level into PC, CY, AC and RBS; IIP is cleared; the
hold-off of R320 is set. -/
def returnFromInterrupt (s : State) : State :=
  let p := stackLevel s (s.sp - 1)
  { s with
    sp := s.sp - 1
    pc := p.ret
    cy := p.cy
    ac := p.ac
    rbs := p.rbs
    iip := false
    retrShadow := true }

/-- Return from a subroutine (R243): pop the level into PC alone; refused where IIP = 1 and the level's bank bits are not
00. -/
def returnFromSubroutine (s : State) : Result State :=
  let p := stackLevel s (s.sp - 1)
  if s.iip && decide (p.ret.extractLsb' 11 2 ≠ 0) then .refused .retToOtherBank
  else .next ((s.setSp (s.sp - 1)).setPc p.ret)

/-- A qualified edge on INT/T0 reaches the request flip-flops (spec/60_exceptions.md R311). -/
def latchExtEdge (s : State) : State :=
  { s with
    xlatch := s.xlatch || s.ei || s.cfg.extLatchWhenDisabled
    eif := s.eif || s.ei }

end Sys2Proof.Machine
end

