-- ==== Sys2Proof/WellFormed.lean ====
section
/-! DEFINITION. Which instructions a device has. Every field value of every encoding is assigned (spec/30_encoding.md
R108), so an instruction is ill-formed only against a device: it names a port, an I2C-bus register or a derivative
register that the device does not have, or accesses a derivative register in a way its type does not allow
(spec/46_io.md R250, R263, R268; spec/60_exceptions.md R301). -/

namespace Sys2Proof

/-- The device `c` has the instruction. -/
def WellFormed (c : Config) : Instr → Bool
  | .inAP1 | .outlP1A | .anlP1Imm _ | .orlP1Imm _ => c.hasP1
  | .inAP2 | .outlP2A | .anlP2Imm _ | .orlP2Imm _ => c.hasP2
  | .movADx x => c.derivReadable x
  | .movDxA x => c.derivWritable x
  | .anlDxA x | .orlDxA x => c.derivReadable x && c.derivWritable x
  | .movAS0 | .movAS1 | .movS0A | .movS1A | .movS2A | .movS0Imm _ | .movS1Imm _ | .movS2Imm _ => c.hasI2C
  | .addARr _ | .addAInd _ | .addAImm _ | .addcARr _ | .addcAInd _ | .addcAImm _ | .anlARr _ | .anlAInd _
  | .anlAImm _ | .orlARr _ | .orlAInd _ | .orlAImm _ | .xrlARr _ | .xrlAInd _ | .xrlAImm _ | .incA | .decA
  | .clrA | .cplA | .rlA | .rlcA | .rrA | .rrcA | .daA | .swapA | .movARr _ | .movAInd _ | .movAImm _
  | .movRrA _ | .movIndA _ | .movRrImm _ _ | .movIndImm _ _ | .xchARr _ | .xchAInd _ | .xchdAInd _
  | .movAPsw | .movPswA | .movpAA | .clrC | .cplC | .incRr _ | .incInd _ | .decRr _ | .decInd _ | .jmp _ _
  | .jmppA | .djnzRr _ _ | .djnzInd _ _ | .jb _ _ | .jc _ | .jnc _ | .jz _ | .jnz _ | .jt0 _ | .jnt0 _
  | .jt1 _ | .jnt1 _ | .jtf _ | .jntf _ | .movAT | .movTA | .strtCnt | .strtT | .stopTcnt | .enTcnti
  | .disTcnti | .enI | .disI | .selRb0 | .selRb1 | .selMb0 | .selMb1 | .selMb2 | .selMb3 | .stop | .idle
  | .call _ _ | .ret | .retr | .inAP0 | .outlP0A | .anlP0Imm _ | .orlP0Imm _ | .enSi | .disSi | .nop => true

end Sys2Proof
end

