-- ==== Sys2Proof/Machine/Operands.lean ====
section
/-! DEFINITION. Every operand form (spec/30_encoding.md R104, spec/20_memory.md R73): working registers, pointers, in-page
addresses and tables, the long target of JMP and CALL, port lines and flip-flops, derivative registers. -/

namespace Sys2Proof.Machine

/-! ### Working registers and pointers -/

/-- The data memory location of working register `r` of the bank `rbs` (spec/10_state.md R22). -/
def regAddr (rbs : Bool) (r : RegNum) : Nat := (if rbs then 24 else 0) + r.toNat

/-- `x[r]` (R22). -/
def readReg (s : State) (r : RegNum) : Byte := s.ram.read (regAddr s.rbs r)

/-- `x[r] <- v` (R22). -/
def writeReg (s : State) (r : RegNum) (v : Byte) : State := s.setRam (s.ram.write (regAddr s.rbs r) v)

/-- The address in pointer register R0 or R1 of the selected bank (R23). -/
def pointer (s : State) (p : PtrNum) : Byte := readReg s (p.setWidth 3)

/-- The operand `@Rr` (R104). -/
def readInd (s : State) (p : PtrNum) : Result Byte := memRead s (pointer s p)

/-- A write through `@Rr`. -/
def writeInd (s : State) (p : PtrNum) (v : Byte) : Result State := memWrite s (pointer s p) v

/-- Read and write the byte that `@Rr` addresses, the pointer read once, before the write (spec/41_data_moves.md R169). -/
def modifyInd (s : State) (p : PtrNum) (f : Byte → Byte) : Result State :=
  andThen (readInd s p) fun m => writeInd s p (f m)

/-! ### Branch targets and tables -/

/-- `in_page(b)` (spec/43_branch.md R190): the page of the Program Counter after the prologue, with offset `b`. -/
def inPage (pc : CodeAddr) (b : Byte) : CodeAddr := pc.extractLsb' 8 5 ++ b

/-- The last byte of the instruction stands at offset FFH of a page (R191): after the prologue PC[7:0] = 00H. -/
def atPageEnd (s : State) : Bool := decide (s.pc.extractLsb' 0 8 = 0x00)

/-- The page-end case of R191 under `PAGE_END_RULE` = refuse. -/
def pageEndRefused (s : State) : Bool := atPageEnd s && decide (s.cfg.pageEndRule = .refuse)

/-- `take_in_page(b)` (R190, R191). -/
def takeInPage (s : State) (b : Byte) : Result State :=
  if pageEndRefused s then .refused .pageEnd else .next (s.setPc (inPage s.pc b))

/-- A conditional branch: not taken, execution continues at PC. -/
def branchIf (c : Bool) (s : State) (b : Byte) : Result State := if c then takeInPage s b else .next s

/-- `CodeRead(in_page(off))`, the table read of MOVP and JMPP (R172, R194), with the page-end case of R191. -/
def tableRead (s : State) (off : Byte) : Result Byte :=
  if pageEndRefused s then .refused .pageEnd
  else if inRom s (inPage s.pc off) then .next (romByte s (inPage s.pc off))
  else .fault (.tableBeyondRom (inPage s.pc off))

/-- `bank_bits` (R192). -/
def bankBits (s : State) : BitVec 2 := if s.iip then 0#2 else BitVec.ofBool s.mbff1 ++ BitVec.ofBool s.mbff0

/-- `long_target` (R192). -/
def longTarget (s : State) (page : PageNum) (addr : Byte) : CodeAddr := bankBits s ++ page ++ addr

/-! ### Ports -/

/-- The lines of a port whose output stage is push-pull, as a mask (spec/60_exceptions.md R340). -/
def isPushPull (o : PortOption) : BitVec 1 := BitVec.ofBool (decide (o = .pushPull))

@[inherit_doc isPushPull]
def pushPullMask8 (o : Vector PortOption 8) : Byte :=
  isPushPull o[7] ++ isPushPull o[6] ++ isPushPull o[5] ++ isPushPull o[4] ++ isPushPull o[3] ++ isPushPull o[2]
    ++ isPushPull o[1] ++ isPushPull o[0]

/-- The push-pull lines of Port 2; SDA/P2.3 is open-drain (R340). -/
def pushPullMask2 (o : Vector PortOption 3) : BitVec 4 := 0#1 ++ isPushPull o[2] ++ isPushPull o[1] ++ isPushPull o[0]

/-- `PortLine(0)`. -/
def portLine0 (s : State) : Byte := portLine s.pff0 (pushPullMask8 s.cfg.option0) s.pins.ext0

/-- `PortLine(1)`. -/
def portLine1 (s : State) : Byte := portLine s.pff1 (pushPullMask8 s.cfg.option1) s.pins.ext1

/-- SDA/P2.3 is the I2C-bus data line and no port line (R253, R362). -/
def sdaTaken (s : State) : Bool := s.cfg.hasI2C && s.i2c.eso

/-- `PortLine(2)` where SDA/P2.3 is a port line. -/
def portLine2 (s : State) : BitVec 4 := portLine s.pff2 (pushPullMask2 s.cfg.option2) s.pins.ext2

/-- Go on only on a device with Port 1 (spec/46_io.md R250). -/
def onPort1 (s : State) (k : State) : Result State := if s.cfg.hasP1 then .next k else .refused .portAbsent

/-- Go on only on a device with Port 2 (R250). -/
def onPort2 (s : State) (k : State) : Result State := if s.cfg.hasP2 then .next k else .refused .portAbsent

/-! ### Derivative registers -/

/-- `DerivRead(x)` (R263): the byte that the read function of DERIV gives, and the state with the effect of the read;
refused where DERIV does not define the access. -/
def derivRead (s : State) (x : Byte) : Result (Byte × State) :=
  if s.cfg.derivReadable x then
    .next (((derivModel s.cfg).read s.deriv x).1, s.setDeriv (((derivModel s.cfg).read s.deriv x).2.apply s.deriv))
  else .refused .derivAccess

/-- `DerivWrite(x, v)` (R263): the effect of the write function of DERIV. -/
def derivWrite (s : State) (x v : Byte) : Result State :=
  if s.cfg.derivWritable x then .next (s.setDeriv (((derivModel s.cfg).write s.deriv x v).apply s.deriv))
  else .refused .derivAccess

/-- Read a derivative register, then write the result of `f`, in one instruction (R266, R267). -/
def modifyDeriv (s : State) (x : Byte) (f : Byte → Byte) : Result State :=
  andThen (derivRead s x) fun r => derivWrite r.2 x (f r.1)

end Sys2Proof.Machine
end

