-- ==== Sys2Proof/Machine/Accumulator.lean ====
section
/-! DEFINITION. The accumulator instructions (spec/40_accumulator.md). The prologue of spec/30_encoding.md R103 has run:
PC addresses the next instruction. -/

namespace Sys2Proof.Machine

/-- `A <- A + v + c` with both flags (R131). -/
def addToA (s : State) (v : Byte) (c : Bool) : State :=
  { s with a := (add8 s.a v c).result, cy := (add8 s.a v c).cy, ac := (add8 s.a v c).ac }

/-- ADD A,Rr (R133). -/
def execAddARr (r : RegNum) (s : State) : Result State := .next (addToA s (readReg s r) false)

/-- ADD A,@Rr (R134). -/
def execAddAInd (p : PtrNum) (s : State) : Result State := andThen (readInd s p) fun v => .next (addToA s v false)

/-- ADD A,#data (R135). -/
def execAddAImm (data : Byte) (s : State) : Result State := .next (addToA s data false)

/-- ADDC A,Rr (R136): the CY read is the value before the instruction. -/
def execAddcARr (r : RegNum) (s : State) : Result State := .next (addToA s (readReg s r) s.cy)

/-- ADDC A,@Rr (R137). -/
def execAddcAInd (p : PtrNum) (s : State) : Result State := andThen (readInd s p) fun v => .next (addToA s v s.cy)

/-- ADDC A,#data (R138). -/
def execAddcAImm (data : Byte) (s : State) : Result State := .next (addToA s data s.cy)

/-- ANL A,Rr (R139). -/
def execAnlARr (r : RegNum) (s : State) : Result State := .next (s.setA (s.a &&& readReg s r))

/-- ANL A,@Rr (R140). -/
def execAnlAInd (p : PtrNum) (s : State) : Result State := andThen (readInd s p) fun v => .next (s.setA (s.a &&& v))

/-- ANL A,#data (R141). -/
def execAnlAImm (data : Byte) (s : State) : Result State := .next (s.setA (s.a &&& data))

/-- ORL A,Rr (R142). -/
def execOrlARr (r : RegNum) (s : State) : Result State := .next (s.setA (s.a ||| readReg s r))

/-- ORL A,@Rr (R143). -/
def execOrlAInd (p : PtrNum) (s : State) : Result State := andThen (readInd s p) fun v => .next (s.setA (s.a ||| v))

/-- ORL A,#data (R144). -/
def execOrlAImm (data : Byte) (s : State) : Result State := .next (s.setA (s.a ||| data))

/-- XRL A,Rr (R145). -/
def execXrlARr (r : RegNum) (s : State) : Result State := .next (s.setA (s.a ^^^ readReg s r))

/-- XRL A,@Rr (R146). -/
def execXrlAInd (p : PtrNum) (s : State) : Result State := andThen (readInd s p) fun v => .next (s.setA (s.a ^^^ v))

/-- XRL A,#data (R147). -/
def execXrlAImm (data : Byte) (s : State) : Result State := .next (s.setA (s.a ^^^ data))

/-- INC A (R148). -/
def execIncA (s : State) : Result State := .next (s.setA (s.a + 1))

/-- DEC A (R149). -/
def execDecA (s : State) : Result State := .next (s.setA (s.a - 1))

/-- CLR A (R150). -/
def execClrA (s : State) : Result State := .next (s.setA 0x00)

/-- CPL A (R151). -/
def execCplA (s : State) : Result State := .next (s.setA (s.a ^^^ 0xFF))

/-- RL A (R152). -/
def execRlA (s : State) : Result State := .next (s.setA (rotateLeft s.a))

/-- RLC A (R153): CY takes bit 7. -/
def execRlcA (s : State) : Result State := .next ((s.setA (rotateLeftCarry s.a s.cy)).setCy (s.a.getLsbD 7))

/-- RR A (R154). -/
def execRrA (s : State) : Result State := .next (s.setA (rotateRight s.a))

/-- RRC A (R155): CY takes bit 0. -/
def execRrcA (s : State) : Result State := .next ((s.setA (rotateRightCarry s.a s.cy)).setCy (s.a.getLsbD 0))

/-- DA A (R156). Under `DA_RULE` = datasheet CY takes any value: a free one (log 19). -/
def execDaA (s : State) : Result State :=
  match s.cfg.daRule with
  | .mcs48 => .next ((s.setA (daMcs48 s.a s.cy s.ac)).setCy (daHighNeeded s.a s.cy s.ac))
  | .datasheet => .next (((s.setA (daDatasheet s.a s.ac)).setCy (Config.freeBit s.draws)).setDraws (s.draws + 1))

/-- SWAP A (R157). -/
def execSwapA (s : State) : Result State := .next (s.setA (swapNibbles s.a))

end Sys2Proof.Machine
end

