-- ==== Sys2Proof/Machine/Branch.lean ====
section
/-! DEFINITION. The branch instructions (spec/43_branch.md), after the prologue of R103: PC is the address of the next
instruction in sequence. -/

namespace Sys2Proof.Machine

/-- JMP addr (R193). -/
def execJmp (page : PageNum) (addr : Byte) (s : State) : Result State := .next (s.setPc (longTarget s page addr))

/-- JMPP @A (R194): the table byte at offset A of the current page is the new low byte of PC. -/
def execJmppA (s : State) : Result State := andThen (tableRead s s.a) fun b => takeInPage s b

/-- DJNZ Rr,addr (R195): the test is on the value after the decrement. -/
def execDjnzRr (r : RegNum) (addr : Byte) (s : State) : Result State :=
  branchIf (decide (readReg s r - 1 ≠ 0x00)) (writeReg s r (readReg s r - 1)) addr

/-- DJNZ @Rr,addr (R196). -/
def execDjnzInd (p : PtrNum) (addr : Byte) (s : State) : Result State :=
  andThen (readInd s p) fun m =>
    andThen (writeInd s p (m - 1)) fun s' => branchIf (decide (m - 1 ≠ 0x00)) s' addr

/-- JBb addr (R197). -/
def execJb (b : BitNum) (addr : Byte) (s : State) : Result State := branchIf (s.a.getLsbD b.toNat) s addr

/-- JC addr (R198). -/
def execJc (addr : Byte) (s : State) : Result State := branchIf s.cy s addr

/-- JNC addr (R199). -/
def execJnc (addr : Byte) (s : State) : Result State := branchIf (!s.cy) s addr

/-- JZ addr (R200). -/
def execJz (addr : Byte) (s : State) : Result State := branchIf (decide (s.a = 0x00)) s addr

/-- JNZ addr (R201). -/
def execJnz (addr : Byte) (s : State) : Result State := branchIf (decide (s.a ≠ 0x00)) s addr

/-- JT0 addr (R202): the level of INT/T0, whether or not the external interrupt is enabled. -/
def execJt0 (addr : Byte) (s : State) : Result State := branchIf s.pins.t0 s addr

/-- JNT0 addr (R203). -/
def execJnt0 (addr : Byte) (s : State) : Result State := branchIf (!s.pins.t0) s addr

/-- JT1 addr (R204). -/
def execJt1 (addr : Byte) (s : State) : Result State := branchIf s.pins.t1 s addr

/-- JNT1 addr (R205): it tests T1 (spec/90_conflicts.md C2). -/
def execJnt1 (addr : Byte) (s : State) : Result State := branchIf (!s.pins.t1) s addr

/-- JTF addr (R206): TF is reset whether or not the branch is taken. -/
def execJtf (addr : Byte) (s : State) : Result State := branchIf s.tf { s with tf := false } addr

/-- JNTF addr (R207): it tests TF (spec/90_conflicts.md C3) and resets it in both outcomes. -/
def execJntf (addr : Byte) (s : State) : Result State := branchIf (!s.tf) { s with tf := false } addr

end Sys2Proof.Machine
end

