-- ==== Sys2Proof/Machine/CarryRegister.lean ====
section
/-! DEFINITION. The carry flag and register instructions (spec/42_flag_register.md), after the prologue of R103. -/

namespace Sys2Proof.Machine

/-- CLR C (R180). -/
def execClrC (s : State) : Result State := .next (s.setCy false)

/-- CPL C (R181). -/
def execCplC (s : State) : Result State := .next (s.setCy (!s.cy))

/-- INC Rr (R182). -/
def execIncRr (r : RegNum) (s : State) : Result State := .next (writeReg s r (readReg s r + 1))

/-- INC @Rr (R183). -/
def execIncInd (p : PtrNum) (s : State) : Result State := modifyInd s p fun m => m + 1

/-- DEC Rr (R184). -/
def execDecRr (r : RegNum) (s : State) : Result State := .next (writeReg s r (readReg s r - 1))

/-- DEC @Rr (R185). -/
def execDecInd (p : PtrNum) (s : State) : Result State := modifyInd s p fun m => m - 1

end Sys2Proof.Machine
end

