-- ==== Sys2Proof/Machine/DataMove.lean ====
section
/-! DEFINITION. The data move instructions (spec/41_data_moves.md), after the prologue of R103. -/

namespace Sys2Proof.Machine

/-- MOV A,Rr (R161). -/
def execMovARr (r : RegNum) (s : State) : Result State := .next (s.setA (readReg s r))

/-- MOV A,@Rr (R162). -/
def execMovAInd (p : PtrNum) (s : State) : Result State := andThen (readInd s p) fun v => .next (s.setA v)

/-- MOV A,#data (R163). -/
def execMovAImm (data : Byte) (s : State) : Result State := .next (s.setA data)

/-- MOV Rr,A (R164). -/
def execMovRrA (r : RegNum) (s : State) : Result State := .next (writeReg s r s.a)

/-- MOV @Rr,A (R165). -/
def execMovIndA (p : PtrNum) (s : State) : Result State := writeInd s p s.a

/-- MOV Rr,#data (R166). -/
def execMovRrImm (r : RegNum) (data : Byte) (s : State) : Result State := .next (writeReg s r data)

/-- MOV @Rr,#data (R167): the pointer is Rr for both values of r (spec/90_conflicts.md C4). -/
def execMovIndImm (p : PtrNum) (data : Byte) (s : State) : Result State := writeInd s p data

/-- XCH A,Rr (R168). -/
def execXchARr (r : RegNum) (s : State) : Result State := .next ((writeReg s r s.a).setA (readReg s r))

/-- XCH A,@Rr (R169): the pointer is read once, before the write. -/
def execXchAInd (p : PtrNum) (s : State) : Result State :=
  andThen (readInd s p) fun m => andThen (writeInd s p s.a) fun s' => .next (s'.setA m)

/-- XCHD A,@Rr (R170): the low nibbles change places, the high nibbles stay. -/
def execXchdAInd (p : PtrNum) (s : State) : Result State :=
  andThen (readInd s p) fun m =>
    andThen (writeInd s p (m.extractLsb' 4 4 ++ s.a.extractLsb' 0 4)) fun s' =>
      .next (s'.setA (s.a.extractLsb' 4 4 ++ m.extractLsb' 0 4))

/-- MOV A,PSW (R171). -/
def execMovAPsw (s : State) : Result State := .next (s.setA (pswByte s))

/-- MOV PSW,A (R173): PS takes bit 3, nothing else of the PSW is written. -/
def execMovPswA (s : State) : Result State := .next { s with ps := s.a.getLsbD 3 }

/-- MOVP A,@A (R172): the table byte of the current page; PC stays. -/
def execMovpAA (s : State) : Result State := andThen (tableRead s s.a) fun v => .next (s.setA v)

end Sys2Proof.Machine
end

