-- ==== Sys2Proof/Machine/Serial.lean ====
section
/-! DEFINITION. The I2C-bus interface: what the CPU's accesses do to its registers (spec/46_io.md R268, spec/60_exceptions.md
R354, R356, R357) and what the interface does on its own, event by event (R351 to R363, R366). -/

namespace Sys2Proof.Machine

/-! ### Fields -/

/-- ALS, bit 0 of S0' (R46). -/
def I2C.als (c : I2C) : Bool := c.s0a.getLsbD 0

/-- ACK, bit 6 of S2 (R49). -/
def I2C.ack (c : I2C) : Bool := c.s2.getLsbD 6

/-- ASC, bit 5 of S2 (R49). -/
def I2C.asc (c : I2C) : Bool := c.s2.getLsbD 5

/-- CC4 to CC0, bits 4 to 0 of S2 (R49). -/
def I2C.cc (c : I2C) : BitVec 5 := c.s2.extractLsb' 0 5

/-- The read view of S1 (R47, R270): `MST TRX BB PIN AL AAS AD0 LRB`. -/
def I2C.s1Read (c : I2C) : Byte :=
  BitVec.ofBool c.mst ++ BitVec.ofBool c.trx ++ BitVec.ofBool c.bb ++ BitVec.ofBool c.pin ++ BitVec.ofBool c.al
    ++ BitVec.ofBool c.aas ++ BitVec.ofBool c.ad0 ++ BitVec.ofBool c.lrb

/-- "The SCLK line is pulled to VSS as long as PIN = 0" (R355), while the interface drives it (R362). -/
def sclkHeldLow (s : State) : Bool := s.cfg.hasI2C && s.i2c.eso && !s.i2c.pin

/-- Table 3 (R364): the divisor of f_xtal that CC4 to CC0 select; code 00 is forbidden and selects none. -/
def sclkDivisor (cc : BitVec 5) : Option Nat :=
  [none, some 39, some 45, some 51, some 63, some 75, some 87, some 99,
   some 123, some 147, some 171, some 195, some 243, some 291, some 339, some 387,
   some 483, some 579, some 675, some 771, some 963, some 1155, some 1347, some 1539,
   some 1923, some 2307, some 2691, some 3075, some 3843, some 4611, some 5379, some 6147].getD cc.toNat none

/-- "Divisors 39, 45 and 51 are not allowed if ASC = 1" (R365), and code 00 never (R364). -/
def clockCodeAllowed (cc : BitVec 5) (asc : Bool) : Bool :=
  decide (cc ≠ 0) && !(asc && decide (cc.toNat ≤ 3))

/-- How many bits a transfer shifts (R57, R363, R365): BC, or 8 where BC is 0, and one more where ACK = 1. -/
def I2C.transferCount (c : I2C) (bc : BitVec 3) : BitVec 4 :=
  (if bc = 0 then 8#4 else bc.setWidth 4) + (if c.ack then 1#4 else 0#4)

/-! ### Accesses of the CPU -/

/-- `cancel_PIN` (R268, R354): PIN is set, AL and AAS are cleared. A cancel of PIN = 0 also lets the next transfer begin, with
the count that BC and ACK give: R57 names no moment for the load of BCNT (DESIGN CHOICE, log 44); and a clear of AD0 that is
due is done (log 45). -/
def I2C.cancelPin (c : I2C) : I2C :=
  if c.pin then { c with al := false, aas := false }
  else
    { c with
      pin := true
      al := false
      aas := false
      bcnt := c.transferCount c.bc
      ad0 := c.ad0 && !c.ad0Due
      ad0Due := false }

/-- `write_S0(v)` (R268): S0 and a cancel of PIN with ESO = 1, S0' with ESO = 0. Where the write comes in the middle of a
master's address byte (PIN = 1), the spec does not say which byte then gives the R/W bit of R356: the model takes the byte just
written (DESIGN CHOICE, log 47). -/
def I2C.writeS0 (c : I2C) (v : Byte) : I2C :=
  if c.eso then { c with s0 := v, txByte := v, spent := false }.cancelPin else { c with s0a := v }

/-- `write_S2(v)` (R268): bit 7 has no function. -/
def I2C.writeS2 (c : I2C) (v : Byte) : I2C := { c with s2 := v.setWidth 7 }

/-- A write of S1 is inhibited (R268): BB = 1, and the interface is neither the master nor an addressed slave. -/
def I2C.s1Inhibited (c : I2C) : Bool := c.bb && !c.mst && !c.selected

/-- The ESO bit that gates the other bits of a write of S1 (R268, parameter `S1_GATE`). -/
def I2C.s1GateOpen (c : I2C) (g : S1Gate) (v : Byte) : Bool :=
  match g with
  | .new => v.getLsbD 3
  | .old => c.eso

/-- The bits of a write of S1 that takes full effect: MST, TRX, BB, ESO, BC and the cancel of PIN (R268). The write also loads
BCNT from the BC it writes, with PIN = 1 too: R57 names no moment for that load (DESIGN CHOICE, log 44). -/
def I2C.s1Load (c : I2C) (v : Byte) : I2C :=
  let c' := { c with
    eso := v.getLsbD 3
    mst := v.getLsbD 7
    trx := v.getLsbD 6
    bb := v.getLsbD 5
    bc := v.extractLsb' 0 3 }.cancelPin
  { c' with bcnt := c'.transferCount c'.bc }

/-- The write makes the interface generate a start condition (R357). -/
def I2C.startsBy (c : I2C) (v : Byte) : Bool := v.getLsbD 7 && v.getLsbD 5 && !c.bb

/-- The write is answered as a lost arbitration (R357): a start attempted while the bus is busy and MST = 0. -/
def I2C.losesBy (c : I2C) (v : Byte) : Bool := v.getLsbD 7 && v.getLsbD 5 && c.bb && !c.mst

/-- The write makes the interface generate a stop condition (R357): a master clears BB. -/
def I2C.stopsBy (c : I2C) (v : Byte) : Bool := c.mst && !v.getLsbD 5

/-- The transfer that AD0 and I2C_SELECTED belong to is over, by a stop condition or a repeated start (R57, R360). While PIN = 0
the feedback bits are stable (R355), so AD0 is then cleared when PIN is cancelled (DEDUCED, log 45). A byte in which the
arbitration was lost does not go on after it (log 29). -/
def I2C.endTransfer (c : I2C) : I2C :=
  { c with selected := false, ad0 := c.ad0 && !c.pin, ad0Due := !c.pin, lostByte := false }

/-- What the interface does when it loses the arbitration (R358). `lostByte`, and not AL, keeps the request due at the end of the
byte: an access to S0 before then clears AL (R354; log 29). -/
def I2C.loseArbitration (c : I2C) : I2C := { c with al := true, mst := false, trx := false, lostByte := true }

/-- A write of S1 that takes full effect: the bits, then the interface acts on them (R268, R356, R357). A start condition
clears the bit counter (R363; log 26), S0 begins to be shifted out, and where AD0 or I2C_SELECTED is still set it is a repeated
one (log 43); a stop condition clears MST, TRX and BB; both end the transfer before (R57, R360; log 25). -/
def I2C.s1Act (c : I2C) (v : Byte) : I2C :=
  let d := c.s1Load v
  if c.startsBy v then { d.endTransfer with bc := 0, bcnt := d.transferCount 0, txByte := d.s0, lastCond := .start }
  else if c.losesBy v then d.loseArbitration
  else if c.stopsBy v then { d.endTransfer with mst := false, trx := false, bb := false, lastCond := .stop }
  else d

/-- `write_S1(v)` (R268). An inhibited write clears BB where its BB bit is 0 and changes nothing else; otherwise ESO is
written, and the other bits where the gate is open; a write of PIN = 0 through the open gate is refused. -/
def I2C.writeS1 (c : I2C) (g : S1Gate) (v : Byte) : Result I2C :=
  if c.s1Inhibited then .next { c with bb := c.bb && v.getLsbD 5 }
  else if c.s1GateOpen g v then
    if v.getLsbD 4 then .next (c.s1Act v) else .refused .s1PinZero
  else .next { c with eso := v.getLsbD 3 }

/-- Go on only on a device with the I2C-bus interface (R268, decision D25). -/
def onI2C (s : State) (k : Result State) : Result State := if s.cfg.hasI2C then k else .refused .noI2C

/-- MOV S0 (R271, R274). -/
def storeS0 (s : State) (v : Byte) : Result State := onI2C s (.next (s.setI2c (s.i2c.writeS0 v)))

/-- MOV S1 (R272, R275). -/
def storeS1 (s : State) (v : Byte) : Result State :=
  onI2C s (andThen (s.i2c.writeS1 s.cfg.s1Gate v) fun c => .next (s.setI2c c))

/-- MOV S2 (R273, R276). -/
def storeS2 (s : State) (v : Byte) : Result State := onI2C s (.next (s.setI2c (s.i2c.writeS2 v)))

/-! ### Events of the interface (R366) -/

/-- A start condition is seen: BB is set, the bit counter cleared. The spec gives no test for a repeated start; AD0 and
I2C_SELECTED are set only after a start and stay until a stop, so where one of them is still set this start is a repeated one
and clears them, whatever BB says (DEDUCED, log 43). -/
def I2C.onStart (c : I2C) : I2C := { c.endTransfer with bb := true, bc := 0, bcnt := c.transferCount 0 }

/-- A stop condition is seen: BB, AD0 and I2C_SELECTED are cleared. -/
def I2C.onStop (c : I2C) : I2C := { c.endTransfer with bb := false }

/-- `byte_done` may occur (R353, R355, R358, R366): PIN = 1 and the interface takes part in the transfer, or lost the
arbitration in this byte (log 29). -/
def I2C.takesPart (c : I2C) : Bool := c.pin && (c.mst || c.als || c.selected || c.lostByte)

/-- `byte_done` (R353, R361, R363): PIN is cleared, S0 holds what was shifted in, or any byte after it was shifted out (R351),
LRB is the last bit, the bit counter has reached 0. -/
def I2C.finishByte (c : I2C) (b : Byte) (last : Bool) : I2C :=
  { c with pin := false, s0 := b, lrb := last, bc := 0, bcnt := 0, spent := c.trx, ad0Due := false, lostByte := false }

/-- The byte is a valid address (R352): bits 7 to 1 are those of S0', or it is the general call byte 00H. -/
def I2C.addressMatches (c : I2C) (b : Byte) : Bool :=
  decide (b.extractLsb' 1 7 = c.s0a.extractLsb' 1 7) || decide (b = 0x00)

/-- The first byte after a start condition is complete. A slave recognises its address, or with ALS = 1 any byte: AAS,
I2C_SELECTED and a request (R359), AD0 where the byte is 00H (R360), and with ALS = 0 TRX takes the R/W bit (R356). A
master becomes master/receiver where the R/W bit of the address it transmitted is 1 and ALS = 0 (R356; log 28, log 47). At the
end of a byte in which the arbitration was lost PIN is cleared whatever the byte (R358). -/
def I2C.onFirstByte (c : I2C) (b : Byte) (last : Bool) : I2C :=
  if !c.pin then c
  else if c.mst then
    { c.finishByte b last with trx := c.trx && !(decide (c.als = false) && c.txByte.getLsbD 0) }
  else if c.als then
    { c.finishByte b last with
      aas := true
      selected := true
      ad0 := c.ad0 || decide (b = 0x00)
      spent := false }
  else if c.addressMatches b then
    { c.finishByte b last with
      aas := true
      selected := true
      ad0 := c.ad0 || decide (b = 0x00)
      trx := b.getLsbD 0
      spent := false }
  else if c.lostByte then c.finishByte b last
  else c

/-- `byte_done` for any byte (R353). -/
def I2C.onByteDone (c : I2C) (b : Byte) (last : Bool) : I2C := if c.takesPart then c.finishByte b last else c

/-- After the next bit a transmitter has shifted S0 out: only the acknowledge bit, if any, is left of the transfer (R351, R366;
DEDUCED, log 46). -/
def I2C.spentAfterBit (c : I2C) : Bool :=
  c.trx && (c.spent || (decide (c.bcnt ≠ 0) && decide (c.bcnt ≤ 1#4 + if c.ack then 1#4 else 0#4)))

/-- A bit is shifted while a transfer may be running (R361, R366): PIN = 1 and BB = 1. S0 changes for a receiver and for a
transmitter that has shifted it out, and stays for a transmitter that has not; BCNT counts down (R57). -/
def I2C.onBit (c : I2C) (b : Byte) (last : Bool) : I2C :=
  if c.pin && c.bb then
    { c with
      s0 := if c.trx && !c.spentAfterBit then c.s0 else b
      lrb := last
      bcnt := if c.bcnt = 0 then 0 else c.bcnt - 1
      spent := c.spentAfterBit }
  else c

/-- The interface loses the arbitration (R358): only in the master/transmitter mode, and not while PIN = 0, when no bit is
transferred and the feedback bits are stable (R355; log 45). -/
def I2C.onArbitrationLost (c : I2C) : I2C := if c.pin && c.mst && c.trx then c.loseArbitration else c

/-- The interface follows the bus (R362, R366): it exists, ESO = 1 and the oscillator runs. -/
def i2cActive (s : State) : Bool := s.cfg.hasI2C && s.i2c.eso && decide (s.mode ≠ .stop)

/-- An event of the interface, where it can have one. -/
def i2cEvent (s : State) (f : I2C → I2C) : State := if i2cActive s then s.setI2c (f s.i2c) else s

end Sys2Proof.Machine
end

