-- ==== Sys2Proof/Machine/InputOutput.lean ====
section
/-! DEFINITION. The input/output instructions and NOP (spec/46_io.md), after the prologue of R103. -/

namespace Sys2Proof.Machine

/-! ### Parallel ports -/

/-- IN A,P0 (R251). -/
def execInAP0 (s : State) : Result State := .next (s.setA (portLine0 s))

/-- IN A,P1 (R252). -/
def execInAP1 (s : State) : Result State := onPort1 s (s.setA (portLine1 s))

/-- IN A,P2 (R253): bit 3 is any value while SDA/P2.3 is the I2C-bus data line: a free one (log 20). -/
def execInAP2 (s : State) : Result State :=
  onPort2 s
    (if sdaTaken s then
      (s.setA (0#4 ++ BitVec.ofBool (Config.freeBit s.draws) ++ (portLine2 s).extractLsb' 0 3)).setDraws (s.draws + 1)
    else s.setA (0#4 ++ portLine2 s))

/-- OUTL P0,A (R254). -/
def execOutlP0A (s : State) : Result State := .next { s with pff0 := s.a }

/-- OUTL P1,A (R255). -/
def execOutlP1A (s : State) : Result State := onPort1 s { s with pff1 := s.a }

/-- OUTL P2,A (R256): bits 7 to 4 of A are ignored. -/
def execOutlP2A (s : State) : Result State := onPort2 s { s with pff2 := s.a.extractLsb' 0 4 }

/-- ANL P0,#data (R257): the flip-flops, not the lines. -/
def execAnlP0Imm (data : Byte) (s : State) : Result State := .next { s with pff0 := s.pff0 &&& data }

/-- ANL P1,#data (R258). -/
def execAnlP1Imm (data : Byte) (s : State) : Result State := onPort1 s { s with pff1 := s.pff1 &&& data }

/-- ANL P2,#data (R259). -/
def execAnlP2Imm (data : Byte) (s : State) : Result State :=
  onPort2 s { s with pff2 := s.pff2 &&& data.extractLsb' 0 4 }

/-- ORL P0,#data (R260). -/
def execOrlP0Imm (data : Byte) (s : State) : Result State := .next { s with pff0 := s.pff0 ||| data }

/-- ORL P1,#data (R261). -/
def execOrlP1Imm (data : Byte) (s : State) : Result State := onPort1 s { s with pff1 := s.pff1 ||| data }

/-- ORL P2,#data (R262). -/
def execOrlP2Imm (data : Byte) (s : State) : Result State :=
  onPort2 s { s with pff2 := s.pff2 ||| data.extractLsb' 0 4 }

/-! ### Derivative registers -/

/-- MOV A,Dx (R264). -/
def execMovADx (x : Byte) (s : State) : Result State := andThen (derivRead s x) fun r => .next (r.2.setA r.1)

/-- MOV Dx,A (R265). -/
def execMovDxA (x : Byte) (s : State) : Result State := derivWrite s x s.a

/-- ANL Dx,A (R266). -/
def execAnlDxA (x : Byte) (s : State) : Result State := modifyDeriv s x fun v => v &&& s.a

/-- ORL Dx,A (R267). -/
def execOrlDxA (x : Byte) (s : State) : Result State := modifyDeriv s x fun v => v ||| s.a

/-! ### I2C-bus registers -/

/-- MOV A,S0 (R269): the data shift register whatever ESO is, and a cancel of PIN. -/
def execMovAS0 (s : State) : Result State := onI2C s (.next ((s.setA s.i2c.s0).setI2c s.i2c.cancelPin))

/-- MOV A,S1 (R270): the read view, without side effect. -/
def execMovAS1 (s : State) : Result State := onI2C s (.next (s.setA s.i2c.s1Read))

/-- MOV S0,A (R271). -/
def execMovS0A (s : State) : Result State := storeS0 s s.a

/-- MOV S1,A (R272). -/
def execMovS1A (s : State) : Result State := storeS1 s s.a

/-- MOV S2,A (R273). -/
def execMovS2A (s : State) : Result State := storeS2 s s.a

/-- MOV S0,#data (R274). -/
def execMovS0Imm (data : Byte) (s : State) : Result State := storeS0 s data

/-- MOV S1,#data (R275). -/
def execMovS1Imm (data : Byte) (s : State) : Result State := storeS1 s data

/-- MOV S2,#data (R276). -/
def execMovS2Imm (data : Byte) (s : State) : Result State := storeS2 s data

/-- EN SI (R277): on every device, since the enable also serves the derivative interrupt. -/
def execEnSi (s : State) : Result State := .next { s with si := true }

/-- DIS SI (R278): nothing else is cleared. -/
def execDisSi (s : State) : Result State := .next { s with si := false }

/-- NOP (R279): nothing beyond the prologue. -/
def execNop (s : State) : Result State := .next s

end Sys2Proof.Machine
end

