-- ==== Sys2Proof/Machine/Subroutine.lean ====
section
/-! DEFINITION. The subroutine instructions (spec/45_subroutine.md), after the prologue of R103: PC is the return address. -/

namespace Sys2Proof.Machine

/-- CALL addr (R242). -/
def execCall (page : PageNum) (addr : Byte) (s : State) : Result State :=
  .next ((push s s.pc).setPc (longTarget s page addr))

/-- RET (R243). -/
def execRet (s : State) : Result State := returnFromSubroutine s

/-- RETR (R244). -/
def execRetr (s : State) : Result State := .next (returnFromInterrupt s)

end Sys2Proof.Machine
end

