-- ==== Sys2Proof/Machine/TimerControl.lean ====
section
/-! DEFINITION. The timer/event counter and control instructions (spec/44_timer_control.md), after the prologue of R103. -/

namespace Sys2Proof.Machine

/-- MOV A,T (R215). -/
def execMovAT (s : State) : Result State := .next (s.setA s.t)

/-- MOV T,A (R216): TF, TIF and the prescaler stay. -/
def execMovTA (s : State) : Result State := .next { s with t := s.a }

/-- STRT CNT (R217): T is loaded with FFH only under `STRT_CNT_LOADS_FF`. -/
def execStrtCnt (s : State) : Result State :=
  .next { s with tmode := .counter, t := if s.cfg.strtCntLoadsFF then 0xFF else s.t }

/-- STRT T (R218): the prescaler is cleared. -/
def execStrtT (s : State) : Result State := .next { s with tmode := .timer, pre := 0 }

/-- STOP TCNT (R219). -/
def execStopTcnt (s : State) : Result State := .next { s with tmode := .stopped }

/-- EN TCNTI (R220). -/
def execEnTcnti (s : State) : Result State := .next { s with ti := true }

/-- DIS TCNTI (R221). -/
def execDisTcnti (s : State) : Result State := .next { s with ti := false, tif := false }

/-- EN I (R222): a stored edge becomes a request. -/
def execEnI (s : State) : Result State := .next { s with ei := true, eif := s.eif || s.xlatch }

/-- DIS I (R223). -/
def execDisI (s : State) : Result State := .next { s with ei := false, xlatch := false, eif := false }

/-- SEL RB0 (R224). -/
def execSelRb0 (s : State) : Result State := .next { s with rbs := false }

/-- SEL RB1 (R225). -/
def execSelRb1 (s : State) : Result State := .next { s with rbs := true }

/-- SEL MB0 (R226). -/
def execSelMb0 (s : State) : Result State := .next { s with mbff0 := false, mbff1 := false }

/-- SEL MB1 (R227). -/
def execSelMb1 (s : State) : Result State := .next { s with mbff0 := true, mbff1 := false }

/-- SEL MB2 (R228). -/
def execSelMb2 (s : State) : Result State := .next { s with mbff0 := false, mbff1 := true }

/-- SEL MB3 (R229). -/
def execSelMb3 (s : State) : Result State := .next { s with mbff0 := true, mbff1 := true }

/-- STOP (R230): with INT/T0 LOW the Stop mode is not entered. -/
def execStop (s : State) : Result State := .next { s with mode := if s.pins.t0 then .stop else s.mode }

/-- IDLE (R231). -/
def execIdle (s : State) : Result State := .next { s with mode := .idle }

end Sys2Proof.Machine
end

