-- ==== Sys2Proof/Machine/Dispatch.lean ====
section
/-! DEFINITION. One arm per instruction. `exec` is the instruction's rule, after the prologue of spec/30_encoding.md R103
(`fetch`) and before the hold-off and the device steps of spec/60_exceptions.md R319 (`cpuStep`). -/

namespace Sys2Proof.Machine

def exec (i : Instr) (s : State) : Host.Outcome State Fault Refusal :=
  match i with
  | .addARr r => Sys2Proof.Machine.execAddARr r s
  | .addAInd p => Sys2Proof.Machine.execAddAInd p s
  | .addAImm data => Sys2Proof.Machine.execAddAImm data s
  | .addcARr r => Sys2Proof.Machine.execAddcARr r s
  | .addcAInd p => Sys2Proof.Machine.execAddcAInd p s
  | .addcAImm data => Sys2Proof.Machine.execAddcAImm data s
  | .anlARr r => Sys2Proof.Machine.execAnlARr r s
  | .anlAInd p => Sys2Proof.Machine.execAnlAInd p s
  | .anlAImm data => Sys2Proof.Machine.execAnlAImm data s
  | .orlARr r => Sys2Proof.Machine.execOrlARr r s
  | .orlAInd p => Sys2Proof.Machine.execOrlAInd p s
  | .orlAImm data => Sys2Proof.Machine.execOrlAImm data s
  | .xrlARr r => Sys2Proof.Machine.execXrlARr r s
  | .xrlAInd p => Sys2Proof.Machine.execXrlAInd p s
  | .xrlAImm data => Sys2Proof.Machine.execXrlAImm data s
  | .incA => Sys2Proof.Machine.execIncA s
  | .decA => Sys2Proof.Machine.execDecA s
  | .clrA => Sys2Proof.Machine.execClrA s
  | .cplA => Sys2Proof.Machine.execCplA s
  | .rlA => Sys2Proof.Machine.execRlA s
  | .rlcA => Sys2Proof.Machine.execRlcA s
  | .rrA => Sys2Proof.Machine.execRrA s
  | .rrcA => Sys2Proof.Machine.execRrcA s
  | .daA => Sys2Proof.Machine.execDaA s
  | .swapA => Sys2Proof.Machine.execSwapA s
  | .movARr r => Sys2Proof.Machine.execMovARr r s
  | .movAInd p => Sys2Proof.Machine.execMovAInd p s
  | .movAImm data => Sys2Proof.Machine.execMovAImm data s
  | .movRrA r => Sys2Proof.Machine.execMovRrA r s
  | .movIndA p => Sys2Proof.Machine.execMovIndA p s
  | .movRrImm r data => Sys2Proof.Machine.execMovRrImm r data s
  | .movIndImm p data => Sys2Proof.Machine.execMovIndImm p data s
  | .xchARr r => Sys2Proof.Machine.execXchARr r s
  | .xchAInd p => Sys2Proof.Machine.execXchAInd p s
  | .xchdAInd p => Sys2Proof.Machine.execXchdAInd p s
  | .movAPsw => Sys2Proof.Machine.execMovAPsw s
  | .movPswA => Sys2Proof.Machine.execMovPswA s
  | .movpAA => Sys2Proof.Machine.execMovpAA s
  | .clrC => Sys2Proof.Machine.execClrC s
  | .cplC => Sys2Proof.Machine.execCplC s
  | .incRr r => Sys2Proof.Machine.execIncRr r s
  | .incInd p => Sys2Proof.Machine.execIncInd p s
  | .decRr r => Sys2Proof.Machine.execDecRr r s
  | .decInd p => Sys2Proof.Machine.execDecInd p s
  | .jmp page addr => Sys2Proof.Machine.execJmp page addr s
  | .jmppA => Sys2Proof.Machine.execJmppA s
  | .djnzRr r addr => Sys2Proof.Machine.execDjnzRr r addr s
  | .djnzInd p addr => Sys2Proof.Machine.execDjnzInd p addr s
  | .jb b addr => Sys2Proof.Machine.execJb b addr s
  | .jc addr => Sys2Proof.Machine.execJc addr s
  | .jnc addr => Sys2Proof.Machine.execJnc addr s
  | .jz addr => Sys2Proof.Machine.execJz addr s
  | .jnz addr => Sys2Proof.Machine.execJnz addr s
  | .jt0 addr => Sys2Proof.Machine.execJt0 addr s
  | .jnt0 addr => Sys2Proof.Machine.execJnt0 addr s
  | .jt1 addr => Sys2Proof.Machine.execJt1 addr s
  | .jnt1 addr => Sys2Proof.Machine.execJnt1 addr s
  | .jtf addr => Sys2Proof.Machine.execJtf addr s
  | .jntf addr => Sys2Proof.Machine.execJntf addr s
  | .movAT => Sys2Proof.Machine.execMovAT s
  | .movTA => Sys2Proof.Machine.execMovTA s
  | .strtCnt => Sys2Proof.Machine.execStrtCnt s
  | .strtT => Sys2Proof.Machine.execStrtT s
  | .stopTcnt => Sys2Proof.Machine.execStopTcnt s
  | .enTcnti => Sys2Proof.Machine.execEnTcnti s
  | .disTcnti => Sys2Proof.Machine.execDisTcnti s
  | .enI => Sys2Proof.Machine.execEnI s
  | .disI => Sys2Proof.Machine.execDisI s
  | .selRb0 => Sys2Proof.Machine.execSelRb0 s
  | .selRb1 => Sys2Proof.Machine.execSelRb1 s
  | .selMb0 => Sys2Proof.Machine.execSelMb0 s
  | .selMb1 => Sys2Proof.Machine.execSelMb1 s
  | .selMb2 => Sys2Proof.Machine.execSelMb2 s
  | .selMb3 => Sys2Proof.Machine.execSelMb3 s
  | .stop => Sys2Proof.Machine.execStop s
  | .idle => Sys2Proof.Machine.execIdle s
  | .call page addr => Sys2Proof.Machine.execCall page addr s
  | .ret => Sys2Proof.Machine.execRet s
  | .retr => Sys2Proof.Machine.execRetr s
  | .inAP0 => Sys2Proof.Machine.execInAP0 s
  | .inAP1 => Sys2Proof.Machine.execInAP1 s
  | .inAP2 => Sys2Proof.Machine.execInAP2 s
  | .outlP0A => Sys2Proof.Machine.execOutlP0A s
  | .outlP1A => Sys2Proof.Machine.execOutlP1A s
  | .outlP2A => Sys2Proof.Machine.execOutlP2A s
  | .anlP0Imm data => Sys2Proof.Machine.execAnlP0Imm data s
  | .anlP1Imm data => Sys2Proof.Machine.execAnlP1Imm data s
  | .anlP2Imm data => Sys2Proof.Machine.execAnlP2Imm data s
  | .orlP0Imm data => Sys2Proof.Machine.execOrlP0Imm data s
  | .orlP1Imm data => Sys2Proof.Machine.execOrlP1Imm data s
  | .orlP2Imm data => Sys2Proof.Machine.execOrlP2Imm data s
  | .movADx x => Sys2Proof.Machine.execMovADx x s
  | .movDxA x => Sys2Proof.Machine.execMovDxA x s
  | .anlDxA x => Sys2Proof.Machine.execAnlDxA x s
  | .orlDxA x => Sys2Proof.Machine.execOrlDxA x s
  | .movAS0 => Sys2Proof.Machine.execMovAS0 s
  | .movAS1 => Sys2Proof.Machine.execMovAS1 s
  | .movS0A => Sys2Proof.Machine.execMovS0A s
  | .movS1A => Sys2Proof.Machine.execMovS1A s
  | .movS2A => Sys2Proof.Machine.execMovS2A s
  | .movS0Imm data => Sys2Proof.Machine.execMovS0Imm data s
  | .movS1Imm data => Sys2Proof.Machine.execMovS1Imm data s
  | .movS2Imm data => Sys2Proof.Machine.execMovS2Imm data s
  | .enSi => Sys2Proof.Machine.execEnSi s
  | .disSi => Sys2Proof.Machine.execDisSi s
  | .nop => Sys2Proof.Machine.execNop s

end Sys2Proof.Machine
end

