-- ==== Sys2Proof/Machine/Devices.lean ====
section
/-! DEFINITION. Timer/event counter 1 (spec/60_exceptions.md R330 to R332), the events of the environment and of the device
agents (R310, R311, R331, R366, R368), and `devices_step` (R319). -/

namespace Sys2Proof.Machine

/-- `count()` and `overflow()` (R330, R332): T counts up; the step from FFH to 00H sets TF, and TIF where TI = 1. -/
def countT (s : State) : State :=
  { s with
    t := s.t + 1
    tf := s.tf || decide (s.t = 0xFF)
    tif := s.tif || (s.ti && decide (s.t = 0xFF)) }

/-- `timer_cycle()` (R330): one machine cycle, while the oscillator runs. -/
def timerCycle (s : State) : State :=
  if s.mode ≠ .stop ∧ s.tmode = .timer then
    if s.ps = true ∨ s.pre + 1 = 0 then countT { s with pre := s.pre + 1 } else { s with pre := s.pre + 1 }
  else s

/-- `n` machine cycles of the timer. -/
def timerCycles : Nat → State → State
  | 0, s => s
  | n + 1, s => timerCycles n (timerCycle s)

/-- A qualified HIGH-to-LOW transition on INT/T0 (R310): only while the oscillator runs, and only after the pin has been
HIGH; the pin then reads 0. -/
def extEdge (s : State) : State :=
  if s.mode ≠ .stop ∧ (s.t0High = true ∨ s.pins.t0 = true) then
    { latchExtEdge s with pins := { s.pins with t0 := false }, t0High := false }
  else s

/-- A qualified LOW-to-HIGH transition on T1 (R331): counted in counter mode; the pin then reads 1. -/
def t1Edge (s : State) : State :=
  let s' := s.setPins { s.pins with t1 := true }
  if s.tmode = .counter then countT s' else s'

/-- The step function of DERIV (R368), on a device that has it and while the oscillator runs. -/
def derivStep (s : State) (i : DerivInput) : State :=
  if s.cfg.hasDeriv = true ∧ s.mode ≠ .stop then s.setDeriv (((derivModel s.cfg).step s.deriv i).apply s.deriv) else s

/-- One event. `n` is how many further `t1_edge` the machine cycles of this step allow (R331: at most one a cycle). The
answer is the allowance left and the state. -/
def applyEvent (n : Nat) (s : State) : EnvEvent → Nat × State
  | .resetLevel b => (n, s.setPins { s.pins with reset := b })
  | .t0Level b => (n, { s with pins := { s.pins with t0 := b }, t0High := s.t0High || b })
  | .extEdge => (n, extEdge s)
  | .t1Level b => (n, s.setPins { s.pins with t1 := b })
  | .t1Edge => if n = 0 ∨ s.mode = .stop then (n, s) else (n - 1, t1Edge s)
  | .port0Ext v => (n, s.setPins { s.pins with ext0 := v })
  | .port1Ext v => (n, s.setPins { s.pins with ext1 := v })
  | .port2Ext v => (n, s.setPins { s.pins with ext2 := v })
  | .i2cStart => (n, i2cEvent s I2C.onStart)
  | .i2cFirstByte b last => (n, i2cEvent s fun c => c.onFirstByte b last)
  | .i2cByteDone b last => (n, i2cEvent s fun c => c.onByteDone b last)
  | .i2cBit b last => (n, i2cEvent s fun c => c.onBit b last)
  | .i2cArbitrationLost => (n, i2cEvent s I2C.onArbitrationLost)
  | .i2cStop => (n, i2cEvent s I2C.onStop)
  | .derivStep i => (n, derivStep s i)

/-- The events of one moment, in order. -/
def applyEvents : Nat → State → List EnvEvent → State
  | _, s, [] => s
  | n, s, e :: es => applyEvents (applyEvent n s e).1 (applyEvent n s e).2 es

/-- What the environment does after a step of `n` machine cycles: the first list of the schedule; nothing where the
schedule is over (log 7). -/
def environment (n : Nat) (s : State) : State :=
  match s.env with
  | [] => s
  | es :: rest => applyEvents n { s with env := rest } es

/-- `devices_step(n)` (R319): the timer for `n` machine cycles, then the events. -/
def devicesStep (n : Nat) (s : State) : State := environment n (timerCycles n s)

/-- `wake_from_stop()` (R375, R376): the wake-up is also recorded as a qualified edge of INT/T0, and with EI = 1 it holds
the interrupt off for one instruction. -/
def wakeFromStop (s : State) : State :=
  { latchExtEdge s with
    mode := .normal
    retrShadow := s.retrShadow || s.ei
    t0High := false }

end Sys2Proof.Machine
end

