-- ==== Sys2Proof/Machine/Reset.lean ====
section
/-! DEFINITION. Reset as an event of a running machine (spec/70_reset_and_hazards.md R401, spec/10_state.md R54, R55). -/

namespace Sys2Proof.Machine

/-- Data memory with any value in each of its `size` bytes: the draws from `k` on (R55; log 4). -/
def freeMemory (size k : Nat) : Memory :=
  (List.range size).filterMap fun a =>
    if Config.freeByte (k + a) = unwrittenByte then none else some (a, Config.freeByte (k + a))

/-- The derivative logic after a reset: what DERIV does to empty registers; nothing where the device has none (R50, R55;
log 30). -/
def derivAtReset (c : Config) (d : DerivState) : DerivState :=
  if c.hasDeriv then ((derivModel c).onReset d).apply { regs := [], request := false, inner := 0 }
  else { regs := [], request := false, inner := 0 }

/-- `do_reset()` (R401): every element of R54 at its reset value, the port flip-flops at the device's mask option, and any
value in A, CY, AC, PRE and every byte of data memory, a fresh draw each time (R55). The program memory, the inputs and
the configuration are no state of the chip and stay. -/
def doReset (s : State) : State :=
  { State.reset with
    cfg := s.cfg
    rom := s.rom
    pff0 := s.cfg.portReset0
    pff1 := s.cfg.portReset1
    pff2 := 1#1 ++ s.cfg.portReset2
    a := Config.freeByte s.draws
    cy := Config.freeBit s.draws
    ac := Config.freeBit (s.draws + 1)
    pre := (Config.freeByte (s.draws + 1)).setWidth 5
    ram := freeMemory s.cfg.ramSize (s.draws + 2)
    deriv := derivAtReset s.cfg s.deriv
    pins := s.pins
    t0High := s.t0High
    env := s.env
    draws := s.draws + 2 + s.cfg.ramSize }

end Sys2Proof.Machine
end

