-- ==== Sys2Proof/Machine/Cycle.lean ====
section
/-! DEFINITION. Fetching an instruction (spec/30_encoding.md R103) and the machine's top-level step (spec/60_exceptions.md
R319, R320). -/

namespace Sys2Proof.Machine

/-- `CodeRead(p)` for a fetch (R77, R103). -/
def fetchByte (s : State) (p : CodeAddr) : Result Byte :=
  if inRom s p then .next (romByte s p) else .fault (.fetchBeyondRom p)

/-- The prologue (R103): the instruction at PC, and the state with PC past all its bytes. -/
def fetch (s : State) : Result (Instr × State) :=
  andThen (fetchByte s s.pc) fun op =>
    match lookupOpcode op with
    | none => .refused (.illegalOpcode op)
    | some row =>
      if row.bytes = 2 then
        andThen (fetchByte s (inc11 s.pc)) fun b2 => .next (row.build op b2, s.setPc (inc11 (inc11 s.pc)))
      else .next (row.build op 0x00, s.setPc (inc11 s.pc))

/-- The hold-off after an instruction (R320): RETR sets it itself, every other instruction ends it. -/
def settleShadow (i : Instr) (s : State) : State :=
  { s with retrShadow := s.retrShadow && decide (i = .retr) }

/-- One instruction with its hold-off and the device steps of its machine cycles (R319). -/
def runInstruction (s : State) : Result State :=
  andThen (fetch s) fun f =>
    andThen (exec f.1 f.2) fun s' => .next (devicesStep f.1.cycles (settleShadow f.1 s'))

/-- `cpu_step()` (R319): a reset while the RESET pin is active; in Stop mode nothing but the wake-up; in Idle and normal
mode the accepted interrupt, or an idle machine cycle, or one instruction. -/
def cpuStep (s : State) : Result State :=
  if s.pins.reset then .next (environment 0 (doReset s))
  else
    match s.mode with
    | .stop => .next (environment 0 (if s.pins.t0 then s else wakeFromStop s))
    | .idle =>
      match acceptedSource s with
      | some src => .next (devicesStep s.cfg.intEntryCycles (takeInterrupt s src))
      | none => .next (devicesStep 1 s)
    | .normal =>
      match acceptedSource s with
      | some src => .next (devicesStep s.cfg.intEntryCycles (takeInterrupt s src))
      | none => runInstruction s

/-- `s` with an instruction's bytes in program memory at PC and at the address after it (log 10). -/
def placeInstruction (s : State) (nbits w : Nat) : State :=
  { s with
    rom := (s.rom.write s.pc.toNat (BitVec.ofNat 8 (w % 2 ^ nbits))).write (inc11 s.pc).toNat
      (BitVec.ofNat 8 (w % 2 ^ nbits / 256)) }

end Sys2Proof.Machine
end

