-- ==== Sys2Proof/Machine/Step.lean ====
section
/-! DEFINITION. The step of the machine (spec/60_exceptions.md R319). -/

namespace Sys2Proof.Machine

/-- One step: `cpu_step()` of R319. -/
def step (s : State) : Host.Outcome State Fault Refusal := cpuStep s

/-- `s` with the instruction whose bits are `w` stored where the next step fetches (log 10). -/
def State.withFetchWord (s : State) (nbits w : Nat) : State := placeInstruction s nbits w

end Sys2Proof.Machine
end

