-- ==== Sys2Proof/Safety.lean ====
section
/-! DEFINITION. What counts as a legal state, as a run and as a completed instruction, in the terms the statements use. -/

namespace Sys2Proof.Machine

/-- "IIP = 1 implies PC[12:11] = 00" (spec/43_branch.md R192). -/
def BankFrozen (s : State) : Prop := s.iip = true → s.pc.extractLsb' 11 2 = 0#2

/-- The external request flip-flops agree with the enable (spec/60_exceptions.md R311): with EXT_LATCH_WHEN_DISABLED the
EIF is the latch AND the enable, without it the two flip-flops are equal; EIF = 1 implies EI = 1. TIF = 1 implies TI = 1
(R313). -/
def RequestsCoherent (s : State) : Prop :=
  (if s.cfg.extLatchWhenDisabled then s.eif = (s.xlatch && s.ei) else s.xlatch = s.eif)
    ∧ (s.eif = true → s.ei = true) ∧ (s.tif = true → s.ti = true)

/-- Every memory is in canonical form; program and data memory hold no byte beyond ROM_SIZE and RAM_SIZE, and the derivative
registers are at 8-bit addresses (spec/20_memory.md R70 to R72, spec/10_state.md R50). -/
def MemoryCanonical (s : State) : Prop :=
  s.rom.wf = true ∧ s.ram.wf = true ∧ s.deriv.regs.wf = true
    ∧ s.rom.below s.cfg.romSize = true ∧ s.ram.below s.cfg.ramSize = true ∧ s.deriv.regs.below 256 = true

/-- `n` steps of the machine lead from `s` to `t` without a stop. -/
def Runs (n : Nat) (s t : State) : Prop := Host.Core.run Sys2Proof.core n s = .next t

/-- No event of the schedule makes the RESET pin active. -/
def noResetAhead (s : State) : Bool := s.env.all fun es => es.all fun e => decide (e ≠ .resetLevel true)

/-- Idle mode that only a reset can end (R373): an interrupt is in progress, or no interrupt is enabled and none is
requested by a flip-flop. -/
def idleUntilReset (s : State) : Bool :=
  decide (s.mode = .idle) && !s.pins.reset && noResetAhead s
    && (s.iip || (!s.ei && !s.si && !s.ti && !s.eif && !s.tif))

/-- The data memory locations an instruction stores to, computed as its meaning computes them (spec/20_memory.md R73). -/
def storeAddrs (i : Instr) (s : State) : List Nat :=
  match i with
  | .movRrA r | .movRrImm r _ | .xchARr r | .incRr r | .decRr r | .djnzRr r _ => [regAddr s.rbs r]
  | .movIndA p | .movIndImm p _ | .xchAInd p | .xchdAInd p | .incInd p | .decInd p | .djnzInd p _ =>
    [(pointer s p).toNat]
  | .call _ _ => [hiAddr s.cfg s.sp, loAddr s.cfg s.sp]
  | .addARr _ | .addAInd _ | .addAImm _ | .addcARr _ | .addcAInd _ | .addcAImm _ | .anlARr _ | .anlAInd _
  | .anlAImm _ | .orlARr _ | .orlAInd _ | .orlAImm _ | .xrlARr _ | .xrlAInd _ | .xrlAImm _ | .incA | .decA
  | .clrA | .cplA | .rlA | .rlcA | .rrA | .rrcA | .daA | .swapA | .movARr _ | .movAInd _ | .movAImm _
  | .movAPsw | .movPswA | .movpAA | .clrC | .cplC | .jmp _ _ | .jmppA | .jb _ _ | .jc _ | .jnc _ | .jz _
  | .jnz _ | .jt0 _ | .jnt0 _ | .jt1 _ | .jnt1 _ | .jtf _ | .jntf _ | .movAT | .movTA | .strtCnt | .strtT
  | .stopTcnt | .enTcnti | .disTcnti | .enI | .disI | .selRb0 | .selRb1 | .selMb0 | .selMb1 | .selMb2
  | .selMb3 | .stop | .idle | .ret | .retr | .inAP0 | .inAP1 | .inAP2 | .outlP0A | .outlP1A | .outlP2A
  | .anlP0Imm _ | .anlP1Imm _ | .anlP2Imm _ | .orlP0Imm _ | .orlP1Imm _ | .orlP2Imm _ | .movADx _ | .movDxA _
  | .anlDxA _ | .orlDxA _ | .movAS0 | .movAS1 | .movS0A | .movS1A | .movS2A | .movS0Imm _ | .movS1Imm _
  | .movS2Imm _ | .enSi | .disSi | .nop => []

/-! ### Encodings, from spec/30_encoding.md -/

/-- The instruction is these bytes, both ways, and takes these machine cycles (R101, R106). -/
def Codes (i : Instr) (bytes : List Byte) (cycles : Nat) : Prop :=
  encode i = bytes ∧ decode bytes = .ok (i, []) ∧ i.length = bytes.length ∧ i.cycles = cycles

/-- The 32 opcodes of R107. -/
def unassignedOpcodes : List Byte :=
  [0x02, 0x0B, 0x0E, 0x0F, 0x33, 0x3B, 0x3F, 0x63, 0x66, 0x73, 0x75, 0x76, 0x80, 0x81, 0x82, 0x86,
   0x87, 0x8B, 0x90, 0x91, 0x9B, 0x9F, 0xA2, 0xA6, 0xB6, 0xB7, 0xC2, 0xC3, 0xD6, 0xE2, 0xE3, 0xF3]

/-- The 73 opcodes of R106 that are 2 bytes long. -/
def twoByteOpcodes : List Byte :=
  [0x03, 0x13, 0x23, 0x43, 0x53, 0xD3]
    ++ [0x04, 0x14, 0x24, 0x34, 0x44, 0x54, 0x64, 0x74, 0x84, 0x94, 0xA4, 0xB4, 0xC4, 0xD4, 0xE4, 0xF4]
    ++ [0x12, 0x32, 0x52, 0x72, 0x92, 0xB2, 0xD2, 0xF2]
    ++ [0x06, 0x16, 0x26, 0x36, 0x46, 0x56, 0x96, 0xC6, 0xE6, 0xF6]
    ++ [0xB0, 0xB1, 0xB8, 0xB9, 0xBA, 0xBB, 0xBC, 0xBD, 0xBE, 0xBF]
    ++ [0xE0, 0xE1, 0xE8, 0xE9, 0xEA, 0xEB, 0xEC, 0xED, 0xEE, 0xEF]
    ++ [0x88, 0x89, 0x8A, 0x98, 0x99, 0x9A, 0x8C, 0x8D, 0x8E, 0x8F, 0x9C, 0x9D, 0x9E]

/-- The opcodes of R106 that are 1 byte long and take 2 machine cycles. -/
def twoCycleOneByteOpcodes : List Byte :=
  [0x08, 0x09, 0x0A, 0x0C, 0x0D, 0x38, 0x39, 0x3A, 0x3C, 0x3D, 0x3E, 0x83, 0x93, 0xA3, 0xB3]

/-! ### Instructions -/

/-- The next step fetches and executes one instruction (spec/60_exceptions.md R319). -/
def Executing (s : State) : Prop := s.pins.reset = false ∧ s.mode = .normal ∧ acceptedSource s = none

/-- PC past an instruction's bytes (spec/30_encoding.md R103). -/
def pastInstruction (i : Instr) (p : CodeAddr) : CodeAddr := if i.length = 2 then inc11 (inc11 p) else inc11 p

/-- The page of an in-page target is settled: the instruction is not at a page end, or `PAGE_END_RULE` is next_page
(spec/43_branch.md R191). PC is the value after the prologue. -/
def TargetPageKnown (s : State) : Prop := s.pc.extractLsb' 0 8 = 0x00 → s.cfg.pageEndRule = .nextPage

/-- The outcome of an in-page branch with condition `c` from `s` (R190, R191): not taken, nothing more happens; taken, PC
takes the target in the page, and the page-end case is refused under `PAGE_END_RULE` = refuse. -/
def Branches (o : Result State) (c : Prop) (s : State) (addr : Byte) : Prop :=
  (¬c → o = .next s)
    ∧ (c → TargetPageKnown s → o = .next { s with pc := s.pc.extractLsb' 8 5 ++ addr })
    ∧ (c → ¬TargetPageKnown s → o = .refused .pageEnd)

/-- The outcome is a next state that has `v` at `addr` of data memory, has every other location as it was, and is `s` in
everything but data memory. -/
def StoresByte (o : Result State) (s : State) (addr : Nat) (v : Byte) : Prop :=
  ∃ t, o = .next t ∧ t.ram.read addr = v ∧ (∀ b, b ≠ addr → t.ram.read b = s.ram.read b) ∧ t = { s with ram := t.ram }

/-- As `StoresByte`, and the Accumulator takes `a`. -/
def StoresByteAndA (o : Result State) (s : State) (addr : Nat) (v a : Byte) : Prop :=
  ∃ t, o = .next t ∧ t.ram.read addr = v ∧ (∀ b, b ≠ addr → t.ram.read b = s.ram.read b)
    ∧ t = { s with ram := t.ram, a := a }

/-- The outcome is the addition of R131: the sum modulo 256 in A, the carry out of bit 7 in CY, the carry out of bit 3 in AC,
and nothing else changed. -/
def Adds (o : Result State) (s : State) (v : Byte) (c : Nat) : Prop :=
  ∃ t, o = .next t ∧ t.a.toNat = (s.a.toNat + v.toNat + c) % 256
    ∧ (t.cy = true ↔ 256 ≤ s.a.toNat + v.toNat + c)
    ∧ (t.ac = true ↔ 16 ≤ s.a.toNat % 16 + v.toNat % 16 + c)
    ∧ t = { s with a := t.a, cy := t.cy, ac := t.ac }

/-- Two decimal digits, one in each nibble. -/
def IsBcd (b : Byte) : Prop := b.toNat % 16 ≤ 9 ∧ b.toNat / 16 ≤ 9

/-- The number two decimal digits stand for. -/
def bcdValue (b : Byte) : Nat := b.toNat / 16 * 10 + b.toNat % 16

end Sys2Proof.Machine
end

