-- ==== Sys2Proof/Certificates/Slice0/Obligations.lean ====
section
/-! DEFINITION. The statements for the provers. PC in a statement about `exec` is the value after the prologue of
spec/30_encoding.md R103. -/

open Sys2Proof Sys2Proof.Machine

/-! ### Encoding and the step -/

/-- Decode and encode agree: no bit of any encoding is dropped (spec/30_encoding.md R101, R102). -/
def Obligations.DecodeEncodeRoundTrip : Prop :=
  ∀ (i : Instr) (rest : List Byte), decode (encode i ++ rest) = .ok (i, rest)

/-- Every sequence of bytes that decodes is the encoding of what it decodes to, followed by what is left: no two opcodes
mean the same instruction (R105, R108). -/
def Obligations.DecodeDeterminesBytes : Prop :=
  ∀ (bytes rest : List Byte) (i : Instr), decode bytes = .ok (i, rest) → bytes = encode i ++ rest

/-- R107: exactly the 32 listed opcodes are no instruction, and the fetch of one stops the model. That it stops is the
spec's decision D9 (log 13). -/
def Obligations.UnassignedOpcodesRefused : Prop :=
  unassignedOpcodes.length = 32
    ∧ (∀ (op : Byte) (rest : List Byte), decode (op :: rest) = .error (.unassigned op) ↔ op ∈ unassignedOpcodes)
    ∧ ∀ s : State, Executing s → inRom s s.pc = true → romByte s s.pc ∈ unassignedOpcodes →
        step s = .refused (.illegalOpcode (romByte s s.pc))

/-- R106: the length of every opcode, the counts, and the machine cycles. -/
def Obligations.InstructionLengths : Prop :=
  (∀ op : Byte, opcodeLength op =
      if op ∈ twoByteOpcodes then some 2 else if op ∈ unassignedOpcodes then none else some 1)
    ∧ twoByteOpcodes.length = 73 ∧ twoByteOpcodes.Nodup
    ∧ ((List.range 256).filter fun n => decide (opcodeLength (BitVec.ofNat 8 n) = some 1)).length = 151
    ∧ (∀ i : Instr, opcodeLength ((encode i).headD 0x00) = some i.length)
    ∧ (∀ i : Instr, i.length = 2 → i.cycles = 2)
    ∧ ∀ i : Instr, i.length = 1 → i.cycles = if (encode i).headD 0x00 ∈ twoCycleOneByteOpcodes then 2 else 1

/-- A few words written out bit by bit from R101 and R105 decode to their instructions. -/
def Obligations.DecodeWords : Prop :=
  decode [0b0110_1010] = .ok (.addARr 2, [])
    ∧ decode [0b0111_0001] = .ok (.addcAInd 1, [])
    ∧ decode [0b1011_1101, 0x5A] = .ok (.movRrImm 5 0x5A, [])
    ∧ decode [0b1011_0001, 0xFF] = .ok (.movIndImm 1 0xFF, [])
    ∧ decode [0b1100_1111] = .ok (.decRr 7, [])
    ∧ decode [0b0110_0100, 0x80] = .ok (.jmp 3 0x80, [])
    ∧ decode [0b1111_0010, 0x10] = .ok (.jb 7 0x10, [])
    ∧ decode [0b1110_1011, 0x20] = .ok (.djnzRr 3 0x20, [])
    ∧ decode [0b0101_0101] = .ok (.strtT, [])
    ∧ decode [0b0101_0100, 0x00] = .ok (.call 2 0x00, [])
    ∧ decode [0b1001_1010, 0xF7] = .ok (.anlP2Imm 0xF7, [])
    ∧ decode [0b1000_1110, 0x10] = .ok (.anlDxA 0x10, [])
    ∧ decode [0b1001_1101, 0x18] = .ok (.movS1Imm 0x18, [])

/-- A step runs the decoded instruction: where no reset, no reduced power mode and no accepted interrupt comes first and the
bytes at PC decode to `i`, the step is `exec` of `i` with PC past its bytes, then the hold-off of R320 and the device steps of
its machine cycles. These are the spec's own decisions: that PC is past all bytes before the effect, D6 (log 39); the byte order,
D1 (log 39); the hold-off, D17 (log 40); that the instruction's effect comes first and the device steps after it, D12 (log 9). -/
def Obligations.StepRunsDecodedInstruction : Prop :=
  ∀ (s : State) (i : Instr) (rest : List Byte), Executing s →
    inRom s s.pc = true → (i.length = 2 → inRom s (inc11 s.pc) = true) →
    decode [romByte s s.pc, romByte s (inc11 s.pc)] = .ok (i, rest) →
    step s = andThen (exec i { s with pc := pastInstruction i s.pc }) fun t =>
      .next (devicesStep i.cycles { t with retrShadow := t.retrShadow && decide (i = .retr) })

/-- Program memory that the device does not have stops a fetch and a table read; that it stops is the spec's decision D4
(R77; log 12). -/
def Obligations.ProgramMemoryEnd : Prop :=
  ∀ s : State,
    (Executing s → s.cfg.romSize ≤ s.pc.toNat → step s = .fault (.fetchBeyondRom s.pc))
      ∧ (Executing s → s.pc.toNat < s.cfg.romSize → romByte s s.pc ∈ twoByteOpcodes →
          s.cfg.romSize ≤ (inc11 s.pc).toNat → step s = .fault (.fetchBeyondRom (inc11 s.pc)))
      ∧ (TargetPageKnown s → s.cfg.romSize ≤ (s.pc.extractLsb' 8 5 ++ s.a).toNat →
          exec .movpAA s = .fault (.tableBeyondRom (s.pc.extractLsb' 8 5 ++ s.a))
            ∧ exec .jmppA s = .fault (.tableBeyondRom (s.pc.extractLsb' 8 5 ++ s.a)))

/-- Every `@Rr` form stops at a pointer at or above RAM_SIZE; that it stops is the spec's decision D4 (R78; log 12). -/
def Obligations.DataMemoryEnd : Prop :=
  ∀ (s : State) (p : PtrNum) (b : Byte), s.cfg.ramSize ≤ (pointer s p).toNat →
    ∀ i ∈ [Instr.addAInd p, .addcAInd p, .anlAInd p, .orlAInd p, .xrlAInd p, .movAInd p, .movIndA p, .movIndImm p b,
           .xchAInd p, .xchdAInd p, .incInd p, .decInd p, .djnzInd p b],
      exec i s = .fault (.dataBeyondRam (pointer s p))

/-! ### Registers and data memory -/

/-- The working registers are data memory locations, bank 0 at 0 to 7 and bank 1 at 24 to 31 (R22); the pointer of an `@Rr`
form is R0 or R1 of the selected bank (R23); a written register reads back, every other location stays. -/
def Obligations.WorkingRegisterBanks : Prop :=
  (∀ r : RegNum, regAddr false r = r.toNat ∧ regAddr true r = 24 + r.toNat)
    ∧ (∀ (s : State) (r : RegNum), readReg s r = s.ram.read ((if s.rbs then 24 else 0) + r.toNat))
    ∧ (∀ s : State, pointer s 0 = readReg s 0 ∧ pointer s 1 = readReg s 1)
    ∧ ∀ (s : State) (r : RegNum) (v : Byte), s.ram.wf = true →
        readReg (writeReg s r v) r = v
          ∧ (∀ b, b ≠ regAddr s.rbs r → (writeReg s r v).ram.read b = s.ram.read b)
          ∧ writeReg s r v = { s with ram := (writeReg s r v).ram }

/-! ### Accumulator -/

/-- ADD and ADDC, every form, with their encodings (R133 to R138). That AC is the carry out of bit 3 is R131's own
inference. The forms with a pointer at or above RAM_SIZE are in `DataMemoryEnd`. -/
def Obligations.AddAndAddcForms : Prop :=
  (∀ r : RegNum, Codes (.addARr r) [0b01101#5 ++ r] 1 ∧ Codes (.addcARr r) [0b01111#5 ++ r] 1)
    ∧ (∀ p : PtrNum, Codes (.addAInd p) [0b0110000#7 ++ p] 1 ∧ Codes (.addcAInd p) [0b0111000#7 ++ p] 1)
    ∧ (∀ d : Byte, Codes (.addAImm d) [0x03, d] 2 ∧ Codes (.addcAImm d) [0x13, d] 2)
    ∧ ∀ s : State,
        (∀ r : RegNum, Adds (exec (.addARr r) s) s (readReg s r) 0
          ∧ Adds (exec (.addcARr r) s) s (readReg s r) s.cy.toNat)
        ∧ (∀ p : PtrNum, (pointer s p).toNat < s.cfg.ramSize →
            Adds (exec (.addAInd p) s) s (s.ram.read (pointer s p).toNat) 0
              ∧ Adds (exec (.addcAInd p) s) s (s.ram.read (pointer s p).toNat) s.cy.toNat)
        ∧ (∀ d : Byte, Adds (exec (.addAImm d) s) s d 0 ∧ Adds (exec (.addcAImm d) s) s d s.cy.toNat)

/-- ANL, ORL and XRL, every form, with their encodings: A takes the bitwise result and nothing else changes (R132, R139 to
R147). The forms with a pointer at or above RAM_SIZE are in `DataMemoryEnd`. -/
def Obligations.LogicForms : Prop :=
  (∀ r : RegNum, Codes (.anlARr r) [0b01011#5 ++ r] 1 ∧ Codes (.orlARr r) [0b01001#5 ++ r] 1
      ∧ Codes (.xrlARr r) [0b11011#5 ++ r] 1)
    ∧ (∀ p : PtrNum, Codes (.anlAInd p) [0b0101000#7 ++ p] 1 ∧ Codes (.orlAInd p) [0b0100000#7 ++ p] 1
        ∧ Codes (.xrlAInd p) [0b1101000#7 ++ p] 1)
    ∧ (∀ d : Byte, Codes (.anlAImm d) [0x53, d] 2 ∧ Codes (.orlAImm d) [0x43, d] 2 ∧ Codes (.xrlAImm d) [0xD3, d] 2)
    ∧ ∀ s : State,
        (∀ r : RegNum, exec (.anlARr r) s = .next { s with a := s.a &&& readReg s r }
          ∧ exec (.orlARr r) s = .next { s with a := s.a ||| readReg s r }
          ∧ exec (.xrlARr r) s = .next { s with a := s.a ^^^ readReg s r })
        ∧ (∀ p : PtrNum, (pointer s p).toNat < s.cfg.ramSize →
            exec (.anlAInd p) s = .next { s with a := s.a &&& s.ram.read (pointer s p).toNat }
              ∧ exec (.orlAInd p) s = .next { s with a := s.a ||| s.ram.read (pointer s p).toNat }
              ∧ exec (.xrlAInd p) s = .next { s with a := s.a ^^^ s.ram.read (pointer s p).toNat })
        ∧ (∀ d : Byte, exec (.anlAImm d) s = .next { s with a := s.a &&& d }
          ∧ exec (.orlAImm d) s = .next { s with a := s.a ||| d }
          ∧ exec (.xrlAImm d) s = .next { s with a := s.a ^^^ d })

/-- INC A, DEC A, CLR A, CPL A and SWAP A write A alone (R148 to R151, R157). -/
def Obligations.AccumulatorUnary : Prop :=
  Codes .incA [0x17] 1 ∧ Codes .decA [0x07] 1 ∧ Codes .clrA [0x27] 1 ∧ Codes .cplA [0x37] 1 ∧ Codes .swapA [0x47] 1
    ∧ ∀ s : State,
        exec .incA s = .next { s with a := BitVec.ofNat 8 ((s.a.toNat + 1) % 256) }
          ∧ exec .decA s = .next { s with a := BitVec.ofNat 8 ((s.a.toNat + 255) % 256) }
          ∧ exec .clrA s = .next { s with a := 0x00 }
          ∧ exec .cplA s = .next { s with a := s.a ^^^ 0xFF }
          ∧ exec .swapA s = .next { s with a := BitVec.ofNat 8 (s.a.toNat % 16 * 16 + s.a.toNat / 16) }

/-- The four rotates, bit by bit (R152 to R155): RL and RR write A alone, RLC and RRC also CY. -/
def Obligations.AccumulatorRotates : Prop :=
  Codes .rlA [0xE7] 1 ∧ Codes .rlcA [0xF7] 1 ∧ Codes .rrA [0x77] 1 ∧ Codes .rrcA [0x67] 1
    ∧ ∀ s : State,
        (∃ t, exec .rlA s = .next t ∧ t = { s with a := t.a } ∧ t.a.getLsbD 0 = s.a.getLsbD 7
          ∧ ∀ n, n < 7 → t.a.getLsbD (n + 1) = s.a.getLsbD n)
        ∧ (∃ t, exec .rlcA s = .next t ∧ t = { s with a := t.a, cy := s.a.getLsbD 7 } ∧ t.a.getLsbD 0 = s.cy
          ∧ ∀ n, n < 7 → t.a.getLsbD (n + 1) = s.a.getLsbD n)
        ∧ (∃ t, exec .rrA s = .next t ∧ t = { s with a := t.a } ∧ t.a.getLsbD 7 = s.a.getLsbD 0
          ∧ ∀ n, n < 7 → t.a.getLsbD n = s.a.getLsbD (n + 1))
        ∧ (∃ t, exec .rrcA s = .next t ∧ t = { s with a := t.a, cy := s.a.getLsbD 0 } ∧ t.a.getLsbD 7 = s.cy
          ∧ ∀ n, n < 7 → t.a.getLsbD n = s.a.getLsbD (n + 1))

/-- DA A under both values of DA_RULE (R156). The mcs48 rule is the spec's "[from general knowledge, not in source]"
(decision D7, log 19); under the datasheet rule the statement says nothing of CY, which is a free value. -/
def Obligations.DecimalAdjust : Prop :=
  Codes .daA [0x57] 1
    ∧ ∀ s : State, ∃ t, exec .daA s = .next t ∧
        let low : Bool := s.ac || decide (9 < s.a.toNat % 16)
        let first := s.a.toNat + if low then 6 else 0
        match s.cfg.daRule with
        | .datasheet =>
          t.a.toNat = (if 9 < first % 256 / 16 then first + 96 else first) % 256
            ∧ t = { s with a := t.a, cy := t.cy, draws := t.draws }
        | .mcs48 =>
          let high : Bool := s.cy || decide (256 ≤ first) || decide (9 < first % 256 / 16)
          t.a.toNat = (if high then first + 96 else first) % 256 ∧ t = { s with a := t.a, cy := high }

/-- ADDC followed by DA A adds two 2-digit decimal numbers and a carry, under DA_RULE = mcs48 (R156, R138): the rule's
purpose, which the spec gives as the reason for that default (decision D7, log 19). -/
def Obligations.DecimalAddition : Prop :=
  ∀ (s : State) (d : Byte), s.cfg.daRule = .mcs48 → IsBcd s.a → IsBcd d →
    ∃ t, andThen (exec (.addcAImm d) s) (exec .daA) = .next t ∧ IsBcd t.a
      ∧ 100 * t.cy.toNat + bcdValue t.a = bcdValue s.a + bcdValue d + s.cy.toNat

/-! ### Moves -/

/-- The moves of a register, a RAM byte or an immediate byte to A (R161 to R163): A alone changes. The form with a pointer at
or above RAM_SIZE is in `DataMemoryEnd`. -/
def Obligations.MovesToAccumulator : Prop :=
  (∀ r : RegNum, Codes (.movARr r) [0b11111#5 ++ r] 1) ∧ (∀ p : PtrNum, Codes (.movAInd p) [0b1111000#7 ++ p] 1)
    ∧ (∀ d : Byte, Codes (.movAImm d) [0x23, d] 2)
    ∧ ∀ s : State,
        (∀ r : RegNum, exec (.movARr r) s = .next { s with a := readReg s r })
        ∧ (∀ p : PtrNum, (pointer s p).toNat < s.cfg.ramSize →
            exec (.movAInd p) s = .next { s with a := s.ram.read (pointer s p).toNat })
        ∧ (∀ d : Byte, exec (.movAImm d) s = .next { s with a := d })

/-- The moves to a register or a RAM byte (R164 to R167): the byte at the destination's address takes the value, every other
byte of data memory stays, nothing else changes. The forms with a pointer at or above RAM_SIZE are in `DataMemoryEnd`. -/
def Obligations.MovesToDataMemory : Prop :=
  (∀ r : RegNum, Codes (.movRrA r) [0b10101#5 ++ r] 1) ∧ (∀ p : PtrNum, Codes (.movIndA p) [0b1010000#7 ++ p] 1)
    ∧ (∀ (r : RegNum) (d : Byte), Codes (.movRrImm r d) [0b10111#5 ++ r, d] 2)
    ∧ (∀ (p : PtrNum) (d : Byte), Codes (.movIndImm p d) [0b1011000#7 ++ p, d] 2)
    ∧ ∀ s : State, s.ram.wf = true →
        (∀ r : RegNum, StoresByte (exec (.movRrA r) s) s (regAddr s.rbs r) s.a)
        ∧ (∀ (r : RegNum) (d : Byte), StoresByte (exec (.movRrImm r d) s) s (regAddr s.rbs r) d)
        ∧ (∀ p : PtrNum, (pointer s p).toNat < s.cfg.ramSize →
            StoresByte (exec (.movIndA p) s) s (pointer s p).toNat s.a)
        ∧ (∀ (p : PtrNum) (d : Byte), (pointer s p).toNat < s.cfg.ramSize →
            StoresByte (exec (.movIndImm p d) s) s (pointer s p).toNat d)

/-- XCH A,Rr, XCH A,@Rr and XCHD A,@Rr (R168 to R170). That the pointer of XCH A,@Rr is read once, before the write, is R169's
own inference. The forms with a pointer at or above RAM_SIZE are in `DataMemoryEnd`. -/
def Obligations.Exchanges : Prop :=
  (∀ r : RegNum, Codes (.xchARr r) [0b00101#5 ++ r] 1) ∧ (∀ p : PtrNum, Codes (.xchAInd p) [0b0010000#7 ++ p] 1)
    ∧ (∀ p : PtrNum, Codes (.xchdAInd p) [0b0011000#7 ++ p] 1)
    ∧ ∀ s : State, s.ram.wf = true →
        (∀ r : RegNum, StoresByteAndA (exec (.xchARr r) s) s (regAddr s.rbs r) s.a (readReg s r))
        ∧ (∀ p : PtrNum, (pointer s p).toNat < s.cfg.ramSize →
            StoresByteAndA (exec (.xchAInd p) s) s (pointer s p).toNat s.a (s.ram.read (pointer s p).toNat))
        ∧ (∀ p : PtrNum, (pointer s p).toNat < s.cfg.ramSize →
            let m := s.ram.read (pointer s p).toNat
            StoresByteAndA (exec (.xchdAInd p) s) s (pointer s p).toNat
              (BitVec.ofNat 8 (m.toNat / 16 * 16 + s.a.toNat % 16))
              (BitVec.ofNat 8 (s.a.toNat / 16 * 16 + m.toNat % 16)))

/-- MOV A,PSW reads the layout of R27, bit 5 as 1; MOV PSW,A writes PS alone (R171, R173). -/
def Obligations.PswMoves : Prop :=
  Codes .movAPsw [0xC7] 1 ∧ Codes .movPswA [0xD7] 1
    ∧ ∀ s : State,
        exec .movAPsw s = .next { s with
          a := BitVec.ofNat 8 (128 * s.cy.toNat + 64 * s.ac.toNat + 32 + 16 * s.rbs.toNat + 8 * s.ps.toNat
            + s.sp.toNat) }
          ∧ exec .movPswA s = .next { s with ps := s.a.getLsbD 3 }

/-- MOVP A,@A and JMPP @A read the table byte at offset A of the current page (R172, R194); in the page-end case of R191 with
the rule refuse they stop. That MOVP leaves PC is R172's own inference, the page-end refusal decision D8 (log 14). -/
def Obligations.TableReads : Prop :=
  Codes .movpAA [0xA3] 2 ∧ Codes .jmppA [0xB3] 2
    ∧ ∀ s : State,
        (TargetPageKnown s → (s.pc.extractLsb' 8 5 ++ s.a).toNat < s.cfg.romSize →
          exec .movpAA s = .next { s with a := s.rom.read (s.pc.extractLsb' 8 5 ++ s.a).toNat }
            ∧ exec .jmppA s = .next { s with
                pc := s.pc.extractLsb' 8 5 ++ s.rom.read (s.pc.extractLsb' 8 5 ++ s.a).toNat })
        ∧ (¬TargetPageKnown s → exec .movpAA s = .refused .pageEnd ∧ exec .jmppA s = .refused .pageEnd)

/-- CLR C and CPL C write CY alone; INC and DEC of a register or a RAM byte wrap modulo 256 and touch no flag (R180 to R185).
The forms with a pointer at or above RAM_SIZE are in `DataMemoryEnd`. -/
def Obligations.CarryAndRegisterInstructions : Prop :=
  Codes .clrC [0x97] 1 ∧ Codes .cplC [0xA7] 1
    ∧ (∀ r : RegNum, Codes (.incRr r) [0b00011#5 ++ r] 1 ∧ Codes (.decRr r) [0b11001#5 ++ r] 1)
    ∧ (∀ p : PtrNum, Codes (.incInd p) [0b0001000#7 ++ p] 1 ∧ Codes (.decInd p) [0b1100000#7 ++ p] 1)
    ∧ (∀ s : State, exec .clrC s = .next { s with cy := false } ∧ exec .cplC s = .next { s with cy := !s.cy })
    ∧ ∀ s : State, s.ram.wf = true →
        (∀ r : RegNum,
          StoresByte (exec (.incRr r) s) s (regAddr s.rbs r) (BitVec.ofNat 8 (((readReg s r).toNat + 1) % 256))
            ∧ StoresByte (exec (.decRr r) s) s (regAddr s.rbs r) (BitVec.ofNat 8 (((readReg s r).toNat + 255) % 256)))
        ∧ (∀ p : PtrNum, (pointer s p).toNat < s.cfg.ramSize →
            let m := (s.ram.read (pointer s p).toNat).toNat
            StoresByte (exec (.incInd p) s) s (pointer s p).toNat (BitVec.ofNat 8 ((m + 1) % 256))
              ∧ StoresByte (exec (.decInd p) s) s (pointer s p).toNat (BitVec.ofNat 8 ((m + 255) % 256)))

/-! ### Control flow -/

/-- JMP and CALL: the target's bank is MBFF1, MBFF0, or 00 while IIP = 1 (decision D16, log 40); CALL writes the two bytes of
the level that the Stack Pointer names, for both values of STACK_PSW_BYTE_AT_EVEN (decision D5, log 18), with the address
after the CALL (decision D6, log 39), and counts the Stack Pointer up modulo 8 (R192, R193, R240, R242). -/
def Obligations.JumpAndCall : Prop :=
  (∀ (n : PageNum) (b : Byte), Codes (.jmp n b) [n ++ 0b00100#5, b] 2 ∧ Codes (.call n b) [n ++ 0b10100#5, b] 2)
    ∧ (∀ (s : State) (n : PageNum) (b : Byte), exec (.jmp n b) s = .next { s with
        pc := (if s.iip then 0#2 else BitVec.ofBool s.mbff1 ++ BitVec.ofBool s.mbff0) ++ n ++ b })
    ∧ ∀ (s : State) (n : PageNum) (b : Byte), s.ram.wf = true →
        ∃ t, exec (.call n b) s = .next t
          ∧ t = { s with
              ram := t.ram
              sp := BitVec.ofNat 3 ((s.sp.toNat + 1) % 8)
              pc := (if s.iip then 0#2 else BitVec.ofBool s.mbff1 ++ BitVec.ofBool s.mbff0) ++ n ++ b }
          ∧ hiAddr s.cfg s.sp = 8 + 2 * s.sp.toNat + (if s.cfg.stackPswByteAtEven then 0 else 1)
          ∧ loAddr s.cfg s.sp = 8 + 2 * s.sp.toNat + (if s.cfg.stackPswByteAtEven then 1 else 0)
          ∧ (t.ram.read (hiAddr s.cfg s.sp)).toNat =
              128 * s.cy.toNat + 64 * s.ac.toNat + 32 * (s.pc.toNat / 4096) + 16 * s.rbs.toNat
                + s.pc.toNat / 256 % 16
          ∧ (t.ram.read (loAddr s.cfg s.sp)).toNat = s.pc.toNat % 256
          ∧ ∀ a, a ≠ hiAddr s.cfg s.sp → a ≠ loAddr s.cfg s.sp → t.ram.read a = s.ram.read a

/-- RET and RETR pop the level below the Stack Pointer, which wraps from 0 to 7 (decision D23, log 38): RET loads PC alone,
RETR also CY, AC and RBS, clears IIP and sets the hold-off; RET is refused where IIP = 1 and the stacked bank is not 0
(decision D16, log 15) (R241, R243, R244). -/
def Obligations.Returns : Prop :=
  Codes .ret [0x83] 2 ∧ Codes .retr [0x93] 2
    ∧ ∀ s : State,
        let n := s.sp - 1
        let hi := (s.ram.read (8 + 2 * n.toNat + if s.cfg.stackPswByteAtEven then 0 else 1)).toNat
        let lo := (s.ram.read (8 + 2 * n.toNat + if s.cfg.stackPswByteAtEven then 1 else 0)).toNat
        let ret : CodeAddr := BitVec.ofNat 13 (hi / 32 % 2 * 4096 + hi % 16 * 256 + lo)
        (¬(s.iip = true ∧ 2048 ≤ ret.toNat) → exec .ret s = .next { s with sp := n, pc := ret })
          ∧ (s.iip = true → 2048 ≤ ret.toNat → exec .ret s = .refused .retToOtherBank)
          ∧ exec .retr s = .next { s with
              sp := n
              pc := ret
              cy := decide (hi / 128 % 2 = 1)
              ac := decide (hi / 64 % 2 = 1)
              rbs := decide (hi / 16 % 2 = 1)
              iip := false
              retrShadow := true }

/-- DJNZ decrements modulo 256 and branches on the value after the decrement (R195, R196). In the page-end case a taken
branch is refused (decision D8, log 14); the form with a pointer at or above RAM_SIZE is in `DataMemoryEnd`. -/
def Obligations.DecrementAndBranch : Prop :=
  (∀ (r : RegNum) (b : Byte), Codes (.djnzRr r b) [0b11101#5 ++ r, b] 2)
    ∧ (∀ (p : PtrNum) (b : Byte), Codes (.djnzInd p b) [0b1110000#7 ++ p, b] 2)
    ∧ ∀ (s : State) (b : Byte), s.ram.wf = true →
        let after (addr : Nat) (o : Result State) : Prop :=
          let v : Byte := BitVec.ofNat 8 (((s.ram.read addr).toNat + 255) % 256)
          ∃ u, u.ram.read addr = v ∧ (∀ a, a ≠ addr → u.ram.read a = s.ram.read a) ∧ u = { s with ram := u.ram }
            ∧ Branches o (v ≠ 0x00) u b
        (∀ r : RegNum, after (regAddr s.rbs r) (exec (.djnzRr r b) s))
          ∧ ∀ p : PtrNum, (pointer s p).toNat < s.cfg.ramSize → after (pointer s p).toNat (exec (.djnzInd p b) s)

/-- The branches on a bit of A, on CY, on A = 00H and on the pins T0 and T1 (R197 to R205): taken, PC[7:0] takes the second
byte; nothing else changes. The refusal of a taken branch at a page end is decision D8 (log 14); that JT0 works whether or not
the external interrupt is enabled is R202's own inference. -/
def Obligations.ConditionalBranches : Prop :=
  (∀ (n : BitNum) (b : Byte), Codes (.jb n b) [n ++ 0b10010#5, b] 2)
    ∧ (∀ b : Byte, Codes (.jc b) [0xF6, b] 2 ∧ Codes (.jnc b) [0xE6, b] 2 ∧ Codes (.jz b) [0xC6, b] 2
        ∧ Codes (.jnz b) [0x96, b] 2 ∧ Codes (.jt0 b) [0x36, b] 2 ∧ Codes (.jnt0 b) [0x26, b] 2
        ∧ Codes (.jt1 b) [0x56, b] 2 ∧ Codes (.jnt1 b) [0x46, b] 2)
    ∧ ∀ (s : State) (b : Byte),
        (∀ n : BitNum, Branches (exec (.jb n b) s) (s.a.getLsbD n.toNat = true) s b)
          ∧ Branches (exec (.jc b) s) (s.cy = true) s b
          ∧ Branches (exec (.jnc b) s) (s.cy = false) s b
          ∧ Branches (exec (.jz b) s) (s.a = 0x00) s b
          ∧ Branches (exec (.jnz b) s) (s.a ≠ 0x00) s b
          ∧ Branches (exec (.jt0 b) s) (s.pins.t0 = true) s b
          ∧ Branches (exec (.jnt0 b) s) (s.pins.t0 = false) s b
          ∧ Branches (exec (.jt1 b) s) (s.pins.t1 = true) s b
          ∧ Branches (exec (.jnt1 b) s) (s.pins.t1 = false) s b

/-- JTF and JNTF test TF and reset it whether or not the branch is taken (R206, R207); TIF stays. The refusal of a taken
branch at a page end is decision D8 (log 14). -/
def Obligations.TimerFlagBranches : Prop :=
  (∀ b : Byte, Codes (.jtf b) [0x16, b] 2 ∧ Codes (.jntf b) [0x06, b] 2)
    ∧ ∀ (s : State) (b : Byte),
        Branches (exec (.jtf b) s) (s.tf = true) { s with tf := false } b
          ∧ Branches (exec (.jntf b) s) (s.tf = false) { s with tf := false } b

/-- Only JMP, CALL, RET and RETR change the bank bits of PC (R33, R190, R192). -/
def Obligations.BankChangesOnlyByLongTransfers : Prop :=
  ∀ (i : Instr) (s t : State), exec i s = .next t → t.pc.extractLsb' 11 2 ≠ s.pc.extractLsb' 11 2 →
    (∃ n b, i = .jmp n b) ∨ (∃ n b, i = .call n b) ∨ i = .ret ∨ i = .retr

/-! ### Timer and control instructions -/

/-- MOV A,T, MOV T,A, STRT T and STOP TCNT (R215, R216, R218, R219): TF, TIF and TI stay, and but for STRT T the prescaler. -/
def Obligations.TimerInstructions : Prop :=
  Codes .movAT [0x42] 1 ∧ Codes .movTA [0x62] 1 ∧ Codes .strtT [0x55] 1 ∧ Codes .stopTcnt [0x65] 1
    ∧ ∀ s : State,
        exec .movAT s = .next { s with a := s.t }
          ∧ exec .movTA s = .next { s with t := s.a }
          ∧ exec .strtT s = .next { s with tmode := .timer, pre := 0 }
          ∧ exec .stopTcnt s = .next { s with tmode := .stopped }

/-- EN TCNTI, DIS TCNTI, DIS I, EN SI and DIS SI (R220, R221, R223, R277, R278): a disable cancels a stored request of its
source, but for the shared level request of the I2C-bus interface. -/
def Obligations.InterruptEnables : Prop :=
  Codes .enTcnti [0x25] 1 ∧ Codes .disTcnti [0x35] 1 ∧ Codes .disI [0x15] 1 ∧ Codes .enSi [0x85] 1 ∧ Codes .disSi [0x95] 1
    ∧ ∀ s : State,
        exec .enTcnti s = .next { s with ti := true }
          ∧ exec .disTcnti s = .next { s with ti := false, tif := false }
          ∧ exec .disI s = .next { s with ei := false, xlatch := false, eif := false }
          ∧ exec .enSi s = .next { s with si := true }
          ∧ exec .disSi s = .next { s with si := false }

/-- STRT CNT loads FFH only under STRT_CNT_LOADS_FF, which is decision D13; EN I raises a stored edge, which is decision D10 (R217,
R222; log 35). -/
def Obligations.StartCounterAndEnableExternal : Prop :=
  Codes .strtCnt [0x45] 1 ∧ Codes .enI [0x05] 1
    ∧ ∀ s : State,
        exec .strtCnt s = .next { s with
          tmode := .counter
          t := if s.cfg.strtCntLoadsFF then 0xFF else s.t }
          ∧ exec .enI s = .next { s with ei := true, eif := if s.xlatch then true else s.eif }

/-- SEL RB0 and SEL RB1 write RBS; SEL MB0 to SEL MB3 write the two memory bank flip-flops, PC stays (R224 to R229). -/
def Obligations.BankSelects : Prop :=
  Codes .selRb0 [0xC5] 1 ∧ Codes .selRb1 [0xD5] 1 ∧ Codes .selMb0 [0xE5] 1 ∧ Codes .selMb1 [0xF5] 1
    ∧ Codes .selMb2 [0xA5] 1 ∧ Codes .selMb3 [0xB5] 1
    ∧ ∀ s : State,
        exec .selRb0 s = .next { s with rbs := false }
          ∧ exec .selRb1 s = .next { s with rbs := true }
          ∧ exec .selMb0 s = .next { s with mbff0 := false, mbff1 := false }
          ∧ exec .selMb1 s = .next { s with mbff0 := true, mbff1 := false }
          ∧ exec .selMb2 s = .next { s with mbff0 := false, mbff1 := true }
          ∧ exec .selMb3 s = .next { s with mbff0 := true, mbff1 := true }

/-- IDLE enters Idle mode, in which the CPU fetches nothing and one machine cycle passes (R231); STOP enters Stop mode unless
INT/T0 is LOW, which decision D19 reads as no effect (R230, log 32); NOP does nothing beyond the prologue (R279). -/
def Obligations.PowerModeInstructionsAndNop : Prop :=
  Codes .idle [0x01] 1 ∧ Codes .stop [0x22] 1 ∧ Codes .nop [0x00] 1
    ∧ ∀ s : State,
        exec .idle s = .next { s with mode := .idle }
          ∧ (s.pins.t0 = true → exec .stop s = .next { s with mode := .stop })
          ∧ (s.pins.t0 = false → exec .stop s = .next s)
          ∧ exec .nop s = .next s
          ∧ (s.mode = .idle → s.pins.reset = false → acceptedSource s = none → step s = .next (devicesStep 1 s))

/-! ### Input and output -/

/-- IN reads the lines, line by line (R251 to R253): LOW where the flip-flop is 0, HIGH where it is 1 and the output stage is
push-pull, else the environment's level (R341, decision D14, log 21). Bit 3 of Port 2 is a free value while SDA/P2.3 is the
I2C-bus data line (log 20), and the statement says nothing of it. A port the device does not have is refused (decision D22,
log 16). -/
def Obligations.PortInput : Prop :=
  Codes .inAP0 [0x08] 2 ∧ Codes .inAP1 [0x09] 2 ∧ Codes .inAP2 [0x0A] 2
    ∧ ∀ s : State,
        (∃ t, exec .inAP0 s = .next t ∧ t = { s with a := t.a }
          ∧ ∀ n : Fin 8, t.a.getLsbD n =
              (s.pff0.getLsbD n && (decide (s.cfg.option0[n] = .pushPull) || s.pins.ext0.getLsbD n)))
        ∧ (s.cfg.hasP1 = true → ∃ t, exec .inAP1 s = .next t ∧ t = { s with a := t.a }
          ∧ ∀ n : Fin 8, t.a.getLsbD n =
              (s.pff1.getLsbD n && (decide (s.cfg.option1[n] = .pushPull) || s.pins.ext1.getLsbD n)))
        ∧ (s.cfg.hasP2 = true → ∃ t, exec .inAP2 s = .next t ∧ t = { s with a := t.a, draws := t.draws }
          ∧ t.a.toNat < 16
          ∧ (∀ n : Fin 3, t.a.getLsbD n =
              (s.pff2.getLsbD n && (decide (s.cfg.option2[n] = .pushPull) || s.pins.ext2.getLsbD n)))
          ∧ (¬(s.cfg.hasI2C = true ∧ s.i2c.eso = true) →
              t.a.getLsbD 3 = (s.pff2.getLsbD 3 && s.pins.ext2.getLsbD 3) ∧ t.draws = s.draws))
        ∧ (s.cfg.hasP1 = false → exec .inAP1 s = .refused .portAbsent)
        ∧ (s.cfg.hasP2 = false → exec .inAP2 s = .refused .portAbsent)

/-- OUTL, ANL and ORL work on the flip-flops of a port and change nothing else (R254 to R262). That the forms of Port 2 use
bits 3 to 0 is decision D15 (log 21); a port the device does not have is refused (decision D22, log 16). -/
def Obligations.PortOutput : Prop :=
  Codes .outlP0A [0x38] 2 ∧ Codes .outlP1A [0x39] 2 ∧ Codes .outlP2A [0x3A] 2
    ∧ (∀ d : Byte, Codes (.anlP0Imm d) [0x98, d] 2 ∧ Codes (.anlP1Imm d) [0x99, d] 2 ∧ Codes (.anlP2Imm d) [0x9A, d] 2
        ∧ Codes (.orlP0Imm d) [0x88, d] 2 ∧ Codes (.orlP1Imm d) [0x89, d] 2 ∧ Codes (.orlP2Imm d) [0x8A, d] 2)
    ∧ ∀ (s : State) (d : Byte),
        exec .outlP0A s = .next { s with pff0 := s.a }
          ∧ exec (.anlP0Imm d) s = .next { s with pff0 := s.pff0 &&& d }
          ∧ exec (.orlP0Imm d) s = .next { s with pff0 := s.pff0 ||| d }
          ∧ (s.cfg.hasP1 = true →
              exec .outlP1A s = .next { s with pff1 := s.a }
                ∧ exec (.anlP1Imm d) s = .next { s with pff1 := s.pff1 &&& d }
                ∧ exec (.orlP1Imm d) s = .next { s with pff1 := s.pff1 ||| d })
          ∧ (s.cfg.hasP2 = true →
              exec .outlP2A s = .next { s with pff2 := BitVec.ofNat 4 (s.a.toNat % 16) }
                ∧ exec (.anlP2Imm d) s = .next { s with pff2 := s.pff2 &&& BitVec.ofNat 4 (d.toNat % 16) }
                ∧ exec (.orlP2Imm d) s = .next { s with pff2 := s.pff2 ||| BitVec.ofNat 4 (d.toNat % 16) })
          ∧ (s.cfg.hasP1 = false →
              exec .outlP1A s = .refused .portAbsent ∧ exec (.anlP1Imm d) s = .refused .portAbsent
                ∧ exec (.orlP1Imm d) s = .refused .portAbsent)
          ∧ (s.cfg.hasP2 = false →
              exec .outlP2A s = .refused .portAbsent ∧ exec (.anlP2Imm d) s = .refused .portAbsent
                ∧ exec (.orlP2Imm d) s = .refused .portAbsent)

/-- Derivative logic (R263 to R267, R368). For every DERIV: the four instructions apply its read and its write function, a step
applies its step function, and an access it does not define is refused. For a map of registers and ports: a read gives the
register, or the lines of a port by the equation of R341, and the fixed value of the bits that are not there; a write stores the
bits that are there; and an access does to the request what the map says. That DERIV is an argument is decision D24, the refusal
decision D22 (log 16); the form of the map, and what DERIV may hold and do, are the model's choice (log 30). -/
def Obligations.DerivativeInstructions : Prop :=
  (∀ x : Byte, Codes (.movADx x) [0x8C, x] 2 ∧ Codes (.movDxA x) [0x8D, x] 2 ∧ Codes (.anlDxA x) [0x8E, x] 2
      ∧ Codes (.orlDxA x) [0x8F, x] 2)
    ∧ (∀ (s : State) (x : Byte),
        let deriv := derivModel s.cfg
        let r := deriv.read s.deriv x
        let wrote (d : DerivState) (v : Byte) : State := { s with deriv := (deriv.write d x v).apply d }
        let may : Bool := s.cfg.derivReadable x && s.cfg.derivWritable x
        (s.cfg.derivReadable x = true → exec (.movADx x) s = .next { s with a := r.1, deriv := r.2.apply s.deriv })
          ∧ (s.cfg.derivWritable x = true → exec (.movDxA x) s = .next (wrote s.deriv s.a))
          ∧ (may = true →
              exec (.anlDxA x) s = .next (wrote (r.2.apply s.deriv) (r.1 &&& s.a))
                ∧ exec (.orlDxA x) s = .next (wrote (r.2.apply s.deriv) (r.1 ||| s.a)))
          ∧ (s.cfg.derivReadable x = false → exec (.movADx x) s = .refused .derivAccess)
          ∧ (s.cfg.derivWritable x = false → exec (.movDxA x) s = .refused .derivAccess)
          ∧ (may = false → exec (.anlDxA x) s = .refused .derivAccess ∧ exec (.orlDxA x) s = .refused .derivAccess)
          ∧ (s.cfg.hasDeriv = false → s.cfg.derivReadable x = false ∧ s.cfg.derivWritable x = false)
          ∧ ∀ (n : Nat) (i : DerivInput),
              (s.cfg.hasDeriv = true → s.mode ≠ .stop →
                  applyEvent n s (.derivStep i) = (n, { s with deriv := (deriv.step s.deriv i).apply s.deriv }))
                ∧ (s.cfg.hasDeriv = false ∨ s.mode = .stop → applyEvent n s (.derivStep i) = (n, s)))
    ∧ ∀ (s : State) (x : Byte) (map : List DerivRange) (g : DerivRange),
        s.cfg.hasDeriv = true → s.cfg.derivLogic = .registers map → derivRange map x = some g → s.deriv.regs.wf = true →
        let cell (y : Byte) (n : Nat) : Bool := (s.deriv.regs.read y.toNat).getLsbD n
        let gives (v : Byte) : Prop := ∀ n, n < 8 →
          v.getLsbD n =
            if g.mask.getLsbD n then
              match g.kind with
              | .register | .portFlipFlop => cell x n
              | .portLine flipFlop pushPull => cell flipFlop n && (pushPull.getLsbD n || cell x n)
            else g.unused.getLsbD n
        let after (q : RequestEffect) (b : Bool) : Bool :=
          match q with
          | .keep => b
          | .raise => true
          | .clear => false
        let stores (o : Result State) (v : Byte) (request : Bool) : Prop :=
          ∃ t, o = .next t ∧ t.deriv.regs.read x.toNat = v &&& g.mask
            ∧ (∀ y, y ≠ x.toNat → t.deriv.regs.read y = s.deriv.regs.read y)
            ∧ t = { s with deriv := { s.deriv with regs := t.deriv.regs, request := request } }
        let isLine : Prop := ∃ f p, g.kind = .portLine f p
        (s.cfg.derivReadable x = true ↔ g.access ≠ .writeOnly)
          ∧ (s.cfg.derivWritable x = true ↔ g.access ≠ .readOnly ∧ ¬isLine)
          ∧ (g.access ≠ .writeOnly → ∃ t, exec (.movADx x) s = .next t ∧ gives t.a
              ∧ t = { s with a := t.a, deriv := { s.deriv with request := after g.onRead s.deriv.request } })
          ∧ (g.access ≠ .readOnly → ¬isLine → stores (exec (.movDxA x) s) s.a (after g.onWrite s.deriv.request))
          ∧ (g.access = .readWrite → ¬isLine → ∃ v, gives v
              ∧ stores (exec (.anlDxA x) s) (v &&& s.a) (after g.onWrite (after g.onRead s.deriv.request))
              ∧ stores (exec (.orlDxA x) s) (v ||| s.a) (after g.onWrite (after g.onRead s.deriv.request)))

/-- The moves of S0, S1 to A and of A or an immediate byte to S0 and S2 (R269 to R271, R273, R274, R276): an access to S0
cancels PIN and with it AL and AAS; with ESO = 0 a write of S0 goes to S0' and cancels nothing; a read of S1 has no side
effect. That MOV A,S0 reads S0 whatever ESO is, is decision D21 (log 42); a device without the interface refuses all eight
moves (decision D25, log 16). That a cancel of PIN = 0 loads BCNT is the model's choice (log 44), that it does a clear of AD0
that is due its reading (log 45); `txByte` and `spent` are its own records (log 27, log 46),
and that a write of S0 sets `txByte` in the middle of a transfer too is its choice (log 47). -/
def Obligations.SerialMoves : Prop :=
  Codes .movAS0 [0x0C] 2 ∧ Codes .movAS1 [0x0D] 2 ∧ Codes .movS0A [0x3C] 2 ∧ Codes .movS2A [0x3E] 2
    ∧ (∀ d : Byte, Codes (.movS0Imm d) [0x9C, d] 2 ∧ Codes (.movS2Imm d) [0x9E, d] 2)
    ∧ (∀ s : State, s.cfg.hasI2C = true →
        let c := s.i2c
        let bits : Nat := (if c.bc = 0 then 8 else c.bc.toNat) + (c.s2.getLsbD 6).toNat
        let cancelled (c : I2C) : I2C :=
          if c.pin then { c with al := false, aas := false }
          else { c with
            pin := true, al := false, aas := false, bcnt := BitVec.ofNat 4 bits
            ad0 := c.ad0 && !c.ad0Due, ad0Due := false }
        let toS0 (o : Result State) (v : Byte) : Prop :=
          (c.eso = false → o = .next { s with i2c := { c with s0a := v } })
            ∧ (c.eso = true → o = .next { s with i2c := cancelled { c with s0 := v, txByte := v, spent := false } })
        exec .movAS0 s = .next { s with a := c.s0, i2c := cancelled c }
          ∧ exec .movAS1 s = .next { s with
              a := BitVec.ofNat 8 (128 * c.mst.toNat + 64 * c.trx.toNat + 32 * c.bb.toNat + 16 * c.pin.toNat
                + 8 * c.al.toNat + 4 * c.aas.toNat + 2 * c.ad0.toNat + c.lrb.toNat) }
          ∧ toS0 (exec .movS0A s) s.a
          ∧ (∀ d : Byte, toS0 (exec (.movS0Imm d) s) d)
          ∧ exec .movS2A s = .next { s with i2c := { c with s2 := BitVec.ofNat 7 (s.a.toNat % 128) } }
          ∧ ∀ d : Byte, exec (.movS2Imm d) s = .next { s with
              i2c := { c with s2 := BitVec.ofNat 7 (d.toNat % 128) } })
    ∧ ∀ (s : State) (d : Byte), s.cfg.hasI2C = false →
        ∀ i ∈ [Instr.movAS0, .movAS1, .movS0A, .movS1A, .movS2A, .movS0Imm d, .movS1Imm d, .movS2Imm d],
          exec i s = .refused .noI2C

/-- A write of S1, by MOV S1,A or MOV S1,#data (R268, R272, R275, R357), case by case: inhibited; through a closed gate;
refused with PIN = 0; a start condition; a lost arbitration; a stop condition; none of these. The gate and the refusal are
decision D20 (log 17), the inhibited write's clearing of BB R268's own inference. The model's reading: a generated stop condition
clears AD0 and I2C_SELECTED (log 25), a generated start condition clears BC (log 26), and AD0 and I2C_SELECTED, since it is a
repeated start where one of them is set (log 43). The model's choice: the write loads BCNT (log 44). Its own records are
`ad0Due` (log 45), `lostByte` (log 29), `spent` (log 46), `txByte` and `lastCond` (log 27). -/
def Obligations.SerialControlWrite : Prop :=
  Codes .movS1A [0x3D] 2 ∧ (∀ d : Byte, Codes (.movS1Imm d) [0x9D, d] 2)
    ∧ ∀ (s : State) (v : Byte), s.cfg.hasI2C = true →
        let c := s.i2c
        let inhibited : Prop := c.bb = true ∧ c.mst = false ∧ c.selected = false
        let gate : Bool := if s.cfg.s1Gate = .new then v.getLsbD 3 else c.eso
        let bits (bc : BitVec 3) : BitVec 4 :=
          BitVec.ofNat 4 ((if bc = 0 then 8 else bc.toNat) + (c.s2.getLsbD 6).toNat)
        let loaded (mst trx bb al : Bool) (bc : BitVec 3) : I2C :=
          { c with
            mst := mst, trx := trx, bb := bb, pin := true, eso := v.getLsbD 3, bc := bc, bcnt := bits bc, al := al
            aas := false, ad0 := c.ad0 && (c.pin || !c.ad0Due), ad0Due := c.ad0Due && c.pin }
        let ended (d : I2C) (last : BusCondition) : I2C :=
          { d with ad0 := false, ad0Due := false, selected := false, lostByte := false, lastCond := last }
        let sets (d : I2C) : Result State := .next { s with i2c := d }
        ∀ o, o = exec (.movS1Imm v) s ∨ (v = s.a ∧ o = exec .movS1A s) →
          (inhibited → o = sets { c with bb := v.getLsbD 5 })
            ∧ (¬inhibited → gate = false → o = sets { c with eso := v.getLsbD 3 })
            ∧ (¬inhibited → gate = true → v.getLsbD 4 = false → o = .refused .s1PinZero)
            ∧ (¬inhibited → gate = true → v.getLsbD 4 = true →
                o = sets (
                  if v.getLsbD 7 = true ∧ v.getLsbD 5 = true ∧ c.bb = false then
                    { ended (loaded true (v.getLsbD 6) true false 0) .start with txByte := c.s0 }
                  else if v.getLsbD 7 = true ∧ v.getLsbD 5 = true ∧ c.mst = false then
                    { loaded false false true true (v.extractLsb' 0 3) with lostByte := true }
                  else if c.mst = true ∧ v.getLsbD 5 = false then
                    ended (loaded false false false false (v.extractLsb' 0 3)) .stop
                  else loaded (v.getLsbD 7) (v.getLsbD 6) (v.getLsbD 5) false (v.extractLsb' 0 3)))

/-! ### Frames over all instructions -/

/-- No instruction changes a byte of data memory but those at its destination, computed as its meaning computes them (R72,
R73): none for an instruction that stores nothing. -/
def Obligations.DataMemoryFrame : Prop :=
  ∀ (i : Instr) (s t : State), exec i s = .next t →
    ∀ b, b ∉ storeAddrs i s → t.ram.read b = s.ram.read b

/-- Which instructions may change which flag (R56, the spec's own summary). -/
def Obligations.FlagWriters : Prop :=
  ∀ (i : Instr) (s t : State), exec i s = .next t →
    let adds : Prop := (∃ r, i = .addARr r) ∨ (∃ p, i = .addAInd p) ∨ (∃ d, i = .addAImm d) ∨ (∃ r, i = .addcARr r)
      ∨ (∃ p, i = .addcAInd p) ∨ ∃ d, i = .addcAImm d
    (t.cy ≠ s.cy → adds ∨ i ∈ [Instr.daA, .rlcA, .rrcA, .clrC, .cplC, .retr])
      ∧ (t.ac ≠ s.ac → adds ∨ i = .retr)
      ∧ (t.rbs ≠ s.rbs → i ∈ [Instr.selRb0, .selRb1, .retr])
      ∧ (t.ps ≠ s.ps → i = .movPswA)
      ∧ (t.sp ≠ s.sp → (∃ n b, i = .call n b) ∨ i ∈ [Instr.ret, .retr])
      ∧ (t.tf ≠ s.tf → (∃ b, i = .jtf b) ∨ ∃ b, i = .jntf b)
      ∧ (t.mbff0 ≠ s.mbff0 ∨ t.mbff1 ≠ s.mbff1 → i ∈ [Instr.selMb0, .selMb1, .selMb2, .selMb3])
      ∧ (t.ei ≠ s.ei ∨ t.xlatch ≠ s.xlatch ∨ t.eif ≠ s.eif → i ∈ [Instr.enI, .disI])
      ∧ (t.ti ≠ s.ti ∨ t.tif ≠ s.tif → i ∈ [Instr.enTcnti, .disTcnti])
      ∧ (t.si ≠ s.si → i ∈ [Instr.enSi, .disSi])
      ∧ (t.iip ≠ s.iip → i = .retr)

/-! ### Reset and interrupts -/

/-- A step with the RESET pin active leaves the state of R402, whatever the state before and in every power mode, before the
environment's events; nothing is said of A, CY, AC, the prescaler and data memory, which take any value, but that data memory
keeps its canonical form. The program, the device and the pins stay. That IIP, the hold-off and the three request flip-flops are
0 is decision D11 (log 6), I2C_SELECTED R54's own inference. The derivative logic is as DERIV leaves it; that a map of registers
leaves each at its reset value, without a request, is the model's (log 30, log 31). -/
def Obligations.ResetEvent : Prop :=
  ∀ s : State, s.pins.reset = true → ∃ r, step s = .next (environment 0 r)
    ∧ r.pc = 0x0000 ∧ r.mbff0 = false ∧ r.mbff1 = false ∧ r.rbs = false ∧ r.ps = false ∧ r.sp = 0
    ∧ r.ei = false ∧ r.si = false ∧ r.ti = false ∧ r.iip = false ∧ r.mode = .normal
    ∧ r.tmode = .stopped ∧ r.t = 0x00 ∧ r.tf = false
    ∧ r.pff0 = s.cfg.portReset0 ∧ r.pff1 = s.cfg.portReset1 ∧ r.pff2 = 1#1 ++ s.cfg.portReset2
    ∧ r.i2c.s0 = 0x00 ∧ r.i2c.s0a = 0x00 ∧ r.i2c.s2 = 0 ∧ r.i2c.s1Read = 0x10 ∧ r.i2c.eso = false ∧ r.i2c.bc = 0
    ∧ r.eif = false ∧ r.tif = false ∧ r.xlatch = false ∧ r.retrShadow = false ∧ r.i2c.selected = false
    ∧ (s.cfg.hasDeriv = true →
        r.deriv = ((derivModel s.cfg).onReset s.deriv).apply { regs := [], request := false, inner := 0 })
    ∧ (∀ (map : List DerivRange) (x : Byte) (g : DerivRange), s.cfg.hasDeriv = true → s.cfg.derivLogic = .registers map →
        derivRange map x = some g → (g.kind = .register ∨ g.kind = .portFlipFlop) →
        r.deriv.regs.read x.toNat = g.resetValue &&& g.mask ∧ r.deriv.request = false)
    ∧ (s.cfg.hasDeriv = false → r.deriv.regs = [] ∧ r.deriv.request = false)
    ∧ r.ram.wf = true ∧ r.ram.below s.cfg.ramSize = true
    ∧ r.cfg = s.cfg ∧ r.rom = s.rom ∧ r.pins = s.pins ∧ r.env = s.env

/-- `State.reset` holds every value of R54, on a device whose mask options are the set option (log 1). That IIP, the hold-off
and the three request flip-flops are 0 is decision D11 (log 6), I2C_SELECTED R54's own inference. -/
def Obligations.ResetState : Prop :=
  let r := State.reset
  r.pc = 0x0000 ∧ r.mbff0 = false ∧ r.mbff1 = false ∧ r.rbs = false ∧ r.sp = 0
    ∧ r.ei = false ∧ r.si = false ∧ r.ti = false ∧ r.tmode = .stopped ∧ r.t = 0x00 ∧ r.ps = false ∧ r.tf = false
    ∧ r.pff0 = r.cfg.portReset0 ∧ r.pff1 = r.cfg.portReset1 ∧ r.pff2 = 1#1 ++ r.cfg.portReset2
    ∧ r.i2c.s0 = 0x00 ∧ r.i2c.s0a = 0x00 ∧ r.i2c.s2 = 0 ∧ r.i2c.s1Read = 0x10 ∧ r.i2c.eso = false ∧ r.i2c.bc = 0
    ∧ r.mode = .normal ∧ r.i2c.selected = false ∧ (pswByte r).getLsbD 5 = true
    ∧ r.iip = false ∧ r.retrShadow = false ∧ r.eif = false ∧ r.tif = false ∧ r.xlatch = false

/-- Which interrupt is accepted at an instruction boundary: none while IIP = 1 or during the hold-off, else the source of
highest priority whose request condition holds (R305, R312, R314, R319; whether the derivative logic requests is the predicate of
DERIV, R368; that requests are examined at every boundary and only
there is decision D17, log 40). -/
def Obligations.InterruptPriority : Prop :=
  ∀ s : State,
    let pinLow : Prop := (s.cfg.hasI2C = true ∧ s.i2c.pin = false)
      ∨ (s.cfg.hasDeriv = true ∧ (derivModel s.cfg).requests s.deriv = true)
    let boundaryOpen : Prop := s.iip = false ∧ s.retrShadow = false
    let serial : Prop := s.si = true ∧ pinLow
    (acceptedSource s = some .external ↔ boundaryOpen ∧ s.eif = true)
      ∧ (acceptedSource s = some .serial ↔ boundaryOpen ∧ s.eif = false ∧ serial)
      ∧ (acceptedSource s = some .timer ↔ boundaryOpen ∧ s.eif = false ∧ ¬serial ∧ s.tif = true)

/-- The forced CALL (R315): PC, CY, AC and RBS go to the level the Stack Pointer names, the Stack Pointer counts up, IIP is set,
the source's request flip-flop is cleared, PC takes the vector of the source (R305), Idle mode ends (R371), and nothing else
changes; then the device steps of INT_ENTRY_CYCLES machine cycles (decision D12, log 9). -/
def Obligations.InterruptEntry : Prop :=
  ∀ (s : State) (src : IntSource), s.ram.wf = true → s.pins.reset = false → s.mode ≠ .stop →
    acceptedSource s = some src →
    ∃ e, step s = .next (devicesStep s.cfg.intEntryCycles e)
      ∧ e = { s with
          ram := e.ram
          sp := s.sp + 1
          pc := match src with
            | .external => 0x0003
            | .serial => 0x0005
            | .timer => 0x0007
          iip := true
          mode := .normal
          eif := if src = .external then false else s.eif
          xlatch := if src = .external then false else s.xlatch
          tif := if src = .timer then false else s.tif }
      ∧ (e.ram.read (hiAddr s.cfg s.sp)).toNat =
          128 * s.cy.toNat + 64 * s.ac.toNat + 32 * (s.pc.toNat / 4096) + 16 * s.rbs.toNat + s.pc.toNat / 256 % 16
      ∧ (e.ram.read (loAddr s.cfg s.sp)).toNat = s.pc.toNat % 256
      ∧ ∀ a, a ≠ hiAddr s.cfg s.sp → a ≠ loAddr s.cfg s.sp → e.ram.read a = s.ram.read a

/-- Single level (R314): while IIP = 1 no interrupt is taken, in the one step that clears it without a reset the CPU executes
RETR, and a stored external or timer request is lost only to DIS I or DIS TCNTI. -/
def Obligations.SingleLevel : Prop :=
  ∀ s t : State, s.iip = true → s.pins.reset = false → step s = .next t →
    acceptedSource s = none
      ∧ (t.iip = false → s.mode = .normal ∧ romByte s s.pc = 0x93)
      ∧ (s.eif = true → t.eif = false → s.mode = .normal ∧ romByte s s.pc = 0x15)
      ∧ (s.tif = true → t.tif = false → s.mode = .normal ∧ romByte s s.pc = 0x35)

/-- The hold-off (R320, decision D17, log 40): during it the step executes an instruction whatever is requested, and after a step
that executes an instruction it is on exactly where that instruction was RETR. -/
def Obligations.InterruptHoldOff : Prop :=
  (∀ s : State, s.retrShadow = true → s.pins.reset = false → s.mode = .normal → Executing s)
    ∧ ∀ s t : State, Executing s → step s = .next t → (t.retrShadow = true ↔ romByte s s.pc = 0x93)

/-- A RET right after a CALL comes back to the address after the CALL, with the Stack Pointer as it was (R242, R243), also
while an interrupt is in progress. That the CALL pushes the address after it is decision D6 (log 39); at SP = 7 the CALL wraps
SP to 0, and that a pop with SP = 0 pops level 7 is decision D23 (log 38). -/
def Obligations.ReturnUndoesCall : Prop :=
  ∀ (s t : State) (n : PageNum) (b : Byte), s.ram.wf = true → BankFrozen s → exec (.call n b) s = .next t →
    exec .ret t = .next { t with pc := s.pc, sp := s.sp }

/-- RETR at the end of any interrupt routine that leaves the Stack Pointer and its stack level as the entry left them resumes the
interrupted instruction boundary with its CY, AC and RBS, whatever else the routine changed (R315, R316, R244). After an entry at SP = 7 the
RETR is a pop with SP = 0: that it pops level 7 is decision D23 (log 38). -/
def Obligations.InterruptReturnRestores : Prop :=
  ∀ (s h : State) (src : IntSource), s.ram.wf = true → h.cfg = s.cfg → h.sp = (takeInterrupt s src).sp →
    h.ram.read (hiAddr s.cfg s.sp) = (takeInterrupt s src).ram.read (hiAddr s.cfg s.sp) →
    h.ram.read (loAddr s.cfg s.sp) = (takeInterrupt s src).ram.read (loAddr s.cfg s.sp) →
    exec .retr h = .next { h with
      pc := s.pc, cy := s.cy, ac := s.ac, rbs := s.rbs, sp := s.sp, iip := false, retrShadow := true }

/-! ### Power modes -/

/-- Idle mode entered with IIP = 1, or with no interrupt enabled and none requested, lasts until a reset: any number of steps
without an active RESET pin completes, stays idle, and changes neither PC nor any register, flag or memory byte of the CPU
(R373; the case IIP = 1 is decision D18, log 41). -/
def Obligations.IdleStuckUntilReset : Prop :=
  ∀ (n : Nat) (s : State), idleUntilReset s = true →
    ∃ t, Runs n s t ∧ idleUntilReset t = true ∧ t.mode = .idle ∧ t.pc = s.pc ∧ t.a = s.a ∧ t.ram = s.ram
      ∧ pswByte t = pswByte s ∧ t.iip = s.iip ∧ t.mbff0 = s.mbff0 ∧ t.mbff1 = s.mbff1
      ∧ t.pff0 = s.pff0 ∧ t.pff1 = s.pff1 ∧ t.pff2 = s.pff2

/-- In Stop mode nothing steps (R374): while INT/T0 is HIGH and RESET is not active, a step changes at most the levels of the
pins (and the model's own record of them) and consumes the environment's list for that moment. -/
def Obligations.StopModeStandsStill : Prop :=
  ∀ s : State, s.mode = .stop → s.pins.reset = false → s.pins.t0 = true →
    ∃ t, step s = .next t ∧ t = { s with pins := t.pins, t0High := t.t0High, env := s.env.tail }

/-- A LOW level on INT/T0 ends Stop mode, whether or not the external interrupt is enabled (R375). That the wake-up is recorded as
an edge and, with EI = 1, holds the interrupt off for one instruction is decision D19 (log 32). -/
def Obligations.StopModeWakeUp : Prop :=
  ∀ s : State, s.mode = .stop → s.pins.reset = false → s.pins.t0 = false →
    step s = .next (environment 0 { s with
      mode := .normal
      xlatch := if s.ei || s.cfg.extLatchWhenDisabled then true else s.xlatch
      eif := if s.ei then true else s.eif
      retrShadow := if s.ei then true else s.retrShadow
      t0High := false })

/-! ### Invariants -/

/-- Every step keeps "IIP = 1 implies PC[12:11] = 00" (R192). -/
def Obligations.BankFrozenKept : Prop :=
  ∀ s t : State, BankFrozen s → step s = .next t → BankFrozen t

/-- Every step keeps the relations of the request flip-flops to their enables (R311, R313; decision D10, log 35). -/
def Obligations.RequestsCoherentKept : Prop :=
  ∀ s t : State, RequestsCoherent s → step s = .next t → RequestsCoherent t

/-- Every step on a device whose sizes are in the ranges of R6 keeps every memory canonical, program memory below ROM_SIZE, data
memory below RAM_SIZE and the derivative registers at 8-bit addresses (R70 to R72, R50). -/
def Obligations.MemoryCanonicalKept : Prop :=
  ∀ s t : State, s.cfg.wf = true → MemoryCanonical s → step s = .next t → MemoryCanonical t

/-- `State.reset` meets the invariants, and its device is in the ranges of R6. -/
def Obligations.ResetMeetsInvariants : Prop :=
  BankFrozen State.reset ∧ RequestsCoherent State.reset ∧ MemoryCanonical State.reset ∧ State.reset.cfg.wf = true

/-- No step writes program memory: every fetch of an address gives the same byte for a whole run (R88), and the device stays. -/
def Obligations.ProgramMemoryConstant : Prop :=
  ∀ (n : Nat) (s t : State), Runs n s t → (∀ p : CodeAddr, romByte t p = romByte s p) ∧ t.rom = s.rom ∧ t.cfg = s.cfg

/-! ### The device agents -/

/-- The timer over any number of machine cycles (R330, R332): with PS = 1 it counts every cycle, with PS = 0 every 32; each passage
from FFH to 00H sets TF, and TIF where TI = 1; in the other modes, and in Stop mode, it stands still. -/
def Obligations.TimerCounts : Prop :=
  ∀ (n : Nat) (s : State),
    (s.mode ≠ .stop → s.tmode = .timer →
        let k := if s.ps then n else (s.pre.toNat + n) / 32
        timerCycles n s = { s with
          t := BitVec.ofNat 8 ((s.t.toNat + k) % 256)
          pre := BitVec.ofNat 5 ((s.pre.toNat + n) % 32)
          tf := s.tf || decide (256 ≤ s.t.toNat + k)
          tif := s.tif || (s.ti && decide (256 ≤ s.t.toNat + k)) })
      ∧ (s.mode = .stop ∨ s.tmode ≠ .timer → timerCycles n s = s)

/-- The event counter (R331, R332): of `m` qualified edges on T1 in a step of `n` machine cycles, at most `n` happen, and each that
happens counts in counter mode and in no other; T1 then reads 1. In Stop mode none happens. That an edge beyond the `n`-th has
no effect is the model's reading (log 23). -/
def Obligations.EventCounts : Prop :=
  ∀ (n m : Nat) (s : State),
    let u := applyEvents n s (List.replicate m EnvEvent.t1Edge)
    let k := min m n
    (s.mode ≠ .stop → s.tmode = .counter →
        u = { s with
          t := BitVec.ofNat 8 ((s.t.toNat + k) % 256)
          tf := s.tf || decide (256 ≤ s.t.toNat + k)
          tif := s.tif || (s.ti && decide (256 ≤ s.t.toNat + k))
          pins := { s.pins with t1 := s.pins.t1 || decide (0 < k) } })
      ∧ (s.mode ≠ .stop → s.tmode ≠ .counter → u = { s with pins := { s.pins with t1 := s.pins.t1 || decide (0 < k) } })
      ∧ (s.mode = .stop → u = s)

/-- A qualified edge on INT/T0 (R310, R311): it is stored if EI = 1 or EXT_LATCH_WHEN_DISABLED (decision D10, log 35), it is a request
if EI = 1, and the pin then reads 0; there is none in Stop mode, nor without a HIGH level before it. How the model records that
HIGH level is log 22. -/
def Obligations.ExternalEdge : Prop :=
  ∀ (n : Nat) (s : State),
    (s.mode ≠ .stop → s.t0High = true ∨ s.pins.t0 = true →
        applyEvent n s .extEdge = (n, { s with
          xlatch := if s.ei || s.cfg.extLatchWhenDisabled then true else s.xlatch
          eif := if s.ei then true else s.eif
          pins := { s.pins with t0 := false }
          t0High := false }))
      ∧ (s.mode = .stop → applyEvent n s .extEdge = (n, s))
      ∧ (s.t0High = false → s.pins.t0 = false → applyEvent n s .extEdge = (n, s))

/-- The events of the bus (R366). While PIN = 0 no bit and no byte is transferred (R355): whatever events the environment names, S0,
MST, TRX, PIN and the four feedback bits stay. With ESO = 0, in Stop mode, or without the interface, no event of the bus changes
anything (R362, R366). Else: a start condition sets BB and clears the bit counter (R363), a stop condition clears BB, and both
clear I2C_SELECTED and AD0 (R57, R360); `byte_done` clears PIN, leaves S0, LRB and an empty bit counter (R353, R361, R363); a
bit counts BCNT down, leaves LRB, and S0 in a receiver or a transmitter that has shifted it out; a lost arbitration sets AL and
clears MST and TRX, and PIN is cleared at the end of that byte, also where AL was cleared before by an access to S0 (R358, R354).
The model's reading: a start is a repeated one where AD0 or I2C_SELECTED is set (log 43), with PIN = 0
the clear of AD0 waits for the cancel of PIN (log 45), when S0 is shifted out (log 46), how the lost byte is remembered (log
29); its choice: S0 after `byte_done` and LRB take any value, by events (log 24), a start loads BCNT (log 44). -/
def Obligations.SerialEventsHeld : Prop :=
  (∀ (n : Nat) (es : List EnvEvent) (s : State),
      let u := applyEvents n s es
      (s.i2c.pin = false →
          u.i2c.pin = false ∧ u.i2c.s0 = s.i2c.s0 ∧ u.i2c.mst = s.i2c.mst ∧ u.i2c.trx = s.i2c.trx
            ∧ u.i2c.al = s.i2c.al ∧ u.i2c.aas = s.i2c.aas ∧ u.i2c.ad0 = s.i2c.ad0 ∧ u.i2c.lrb = s.i2c.lrb)
        ∧ (s.cfg.hasI2C = false ∨ s.i2c.eso = false ∨ s.mode = .stop → u.i2c = s.i2c))
    ∧ ∀ (n : Nat) (s : State) (b : Byte) (last : Bool),
        s.cfg.hasI2C = true → s.i2c.eso = true → s.mode ≠ .stop →
        let c := s.i2c
        let ack : Nat := (c.s2.getLsbD 6).toNat
        let gives (e : EnvEvent) (d : I2C) : Prop := applyEvent n s e = (n, { s with i2c := d })
        let ended : I2C :=
          { c with selected := false, ad0 := if c.pin then false else c.ad0, ad0Due := !c.pin, lostByte := false }
        let takesPart : Prop := c.mst = true ∨ c.s0a.getLsbD 0 = true ∨ c.selected = true ∨ c.lostByte = true
        let spent : Bool := c.trx && (c.spent || (decide (1 ≤ c.bcnt.toNat) && decide (c.bcnt.toNat ≤ 1 + ack)))
        gives .i2cStart { ended with bb := true, bc := 0, bcnt := BitVec.ofNat 4 (8 + ack) }
          ∧ gives .i2cStop { ended with bb := false }
          ∧ (c.pin = true → takesPart → gives (.i2cByteDone b last) { c with
              pin := false, s0 := b, lrb := last, bc := 0, bcnt := 0, spent := c.trx, ad0Due := false
              lostByte := false })
          ∧ (¬takesPart → gives (.i2cByteDone b last) c)
          ∧ (c.pin = true → c.bb = true → gives (.i2cBit b last) { c with
              s0 := if c.trx = true ∧ spent = false then c.s0 else b
              lrb := last, bcnt := BitVec.ofNat 4 (c.bcnt.toNat - 1), spent := spent })
          ∧ (c.bb = false → gives (.i2cBit b last) c)
          ∧ (c.pin = true → c.mst = true → c.trx = true →
              gives .i2cArbitrationLost { c with al := true, mst := false, trx := false, lostByte := true })
          ∧ (c.pin = true → c.mst = true → c.trx = true →
              ∃ d, exec .movAS0 (applyEvent n s .i2cArbitrationLost).2 = .next d ∧ d.i2c.al = false
                ∧ (applyEvent n d (.i2cByteDone b last)).2.i2c.pin = false
                ∧ (applyEvent n d (.i2cFirstByte b last)).2.i2c.pin = false)
          ∧ (c.mst = false ∨ c.trx = false → gives .i2cArbitrationLost c)

/-- Address recognition of a slave that takes part in no transfer yet (R352, R356, R359, R360), with ALS = 0: its own address or 00H
sets AAS and I2C_SELECTED, clears PIN, leaves the byte in S0 and its R/W bit in TRX, and 00H sets AD0; any other byte is ignored.
With ALS = 1 any first byte sets AAS and clears PIN, and TRX stays. Where the arbitration was lost in that byte, any other byte too
clears PIN at its end (R358; log 29). That the first byte also sets LRB, to the bit the event names,
is the model's choice (log 24), since R366 names no LRB for it; `spent`, `ad0Due` and `lostByte` are the model's own (log 46, log 45,
log 29). -/
def Obligations.AddressRecognition : Prop :=
  ∀ (n : Nat) (s : State) (b : Byte) (last : Bool),
    s.cfg.hasI2C = true → s.i2c.eso = true → s.mode ≠ .stop → s.i2c.pin = true → s.i2c.mst = false →
    let u := (applyEvent n s (.i2cFirstByte b last)).2
    let recognised (trx : Bool) : Prop :=
      u = { s with i2c := { s.i2c with
        pin := false, s0 := b, lrb := last, aas := true, selected := true, ad0 := s.i2c.ad0 || decide (b = 0x00), trx := trx
        bc := 0, bcnt := 0, spent := false, ad0Due := false, lostByte := false } }
    let foreign : Prop := s.i2c.s0a.getLsbD 0 = false ∧ b.toNat / 2 ≠ s.i2c.s0a.toNat / 2 ∧ b ≠ 0x00
    (s.i2c.s0a.getLsbD 0 = false → b.toNat / 2 = s.i2c.s0a.toNat / 2 ∨ b = 0x00 → recognised (b.getLsbD 0))
      ∧ (foreign → s.i2c.lostByte = false → u = s)
      ∧ (foreign → s.i2c.lostByte = true →
          u = { s with i2c := { s.i2c with
            pin := false, s0 := b, lrb := last, bc := 0, bcnt := 0, spent := s.i2c.trx, ad0Due := false
            lostByte := false } })
      ∧ (s.i2c.s0a.getLsbD 0 = true → recognised s.i2c.trx)
end

