-- ==== Sys2Proof/Laws/Memory.lean ====
section
/-! SUPPORT. The laws of memory: a read after a write, and that every write keeps the canonical form. -/

namespace Sys2Proof.Machine

@[simp] theorem Memory.read_nil (a : Nat) : Memory.read [] a = unwrittenByte := rfl

@[simp] theorem Memory.read_cons (k : Nat) (w : Byte) (m : Memory) (a : Nat) :
    Memory.read ((k, w) :: m) a = if k = a then w else Memory.read m a := rfl

theorem Memory.wfAbove_mono {lo lo' : Nat} (h : lo' ≤ lo) : ∀ {m : Memory}, m.wfAbove lo = true → m.wfAbove lo' = true
  | [], _ => rfl
  | (k, w) :: m, hm => by
    simp only [Memory.wfAbove, Bool.and_eq_true, decide_eq_true_eq] at hm ⊢
    exact ⟨⟨by omega, hm.1.2⟩, hm.2⟩

/-- Below the lowest address a canonical memory may list, every byte is unwritten. -/
theorem Memory.read_below {m : Memory} : ∀ {lo a : Nat}, m.wfAbove lo = true → a < lo → m.read a = unwrittenByte := by
  induction m with
  | nil => intros; rfl
  | cons c m ih =>
    obtain ⟨k, w⟩ := c
    intro lo a h ha
    simp only [Memory.wfAbove, Bool.and_eq_true, decide_eq_true_eq] at h
    rw [Memory.read_cons, if_neg (by omega)]
    exact ih h.2 (by omega)

/-- A write leaves every other address alone, whatever the memory's form. -/
theorem Memory.read_write_other {a b : Nat} (h : b ≠ a) (v : Byte) : ∀ m : Memory, (m.write a v).read b = m.read b
  | [] => by unfold Memory.write; split <;> simp [Ne.symm h]
  | (k, w) :: m => by
    have ih := Memory.read_write_other h v m
    unfold Memory.write
    split_ifs with h1 h2 h3 h4
    · rfl
    · rw [Memory.read_cons, if_neg (Ne.symm h)]
    · rw [Memory.read_cons, if_neg (h3 ▸ Ne.symm h)]
    · rw [Memory.read_cons, Memory.read_cons, if_neg (Ne.symm h), if_neg (h3 ▸ Ne.symm h)]
    · rw [Memory.read_cons, Memory.read_cons, ih]

theorem Memory.read_write_same_above {m : Memory} (a : Nat) (v : Byte) :
    ∀ {lo : Nat}, m.wfAbove lo = true → (m.write a v).read a = v := by
  induction m with
  | nil => intro lo _; unfold Memory.write; split <;> simp_all
  | cons c m ih =>
    obtain ⟨k, w⟩ := c
    intro lo h
    simp only [Memory.wfAbove, Bool.and_eq_true, decide_eq_true_eq] at h
    unfold Memory.write
    split_ifs with h1 h2 h3 h4
    · rw [Memory.read_cons, if_neg (by omega), Memory.read_below h.2 (by omega), h2]
    · simp
    · rw [Memory.read_below h.2 (by omega), h4]
    · simp
    · rw [Memory.read_cons, if_neg (by omega)]; exact ih h.2

/-- A read after a write to the same address gives the value written. -/
theorem Memory.read_write_same {m : Memory} (h : m.wf = true) (a : Nat) (v : Byte) : (m.write a v).read a = v :=
  Memory.read_write_same_above a v h

theorem Memory.write_wfAbove {m : Memory} (a : Nat) (v : Byte) :
    ∀ {lo : Nat}, lo ≤ a → m.wfAbove lo = true → (m.write a v).wfAbove lo = true := by
  induction m with
  | nil => intro lo hlo _; unfold Memory.write; split <;> simp_all [Memory.wfAbove]
  | cons c m ih =>
    obtain ⟨k, w⟩ := c
    intro lo hlo h
    have h' := h
    simp only [Memory.wfAbove, Bool.and_eq_true, decide_eq_true_eq] at h
    unfold Memory.write
    split_ifs with h1 h2 h3 h4
    · exact h'
    · simp only [Memory.wfAbove, Bool.and_eq_true, decide_eq_true_eq]
      exact ⟨⟨hlo, h2⟩, ⟨by omega, h.1.2⟩, h.2⟩
    · exact Memory.wfAbove_mono (by omega) h.2
    · simp only [Memory.wfAbove, Bool.and_eq_true, decide_eq_true_eq]
      exact ⟨⟨hlo, h4⟩, h3 ▸ h.2⟩
    · simp only [Memory.wfAbove, Bool.and_eq_true, decide_eq_true_eq]
      exact ⟨h.1, ih (by omega) h.2⟩

/-- A write keeps the canonical form. -/
theorem Memory.write_wf {m : Memory} (h : m.wf = true) (a : Nat) (v : Byte) : (m.write a v).wf = true :=
  Memory.write_wfAbove a v (Nat.zero_le a) h

/-- A write below a bound keeps every entry below the bound. -/
theorem Memory.write_below {n a : Nat} (ha : a < n) (v : Byte) :
    ∀ {m : Memory}, m.below n = true → (m.write a v).below n = true
  | [], _ => by unfold Memory.write; split <;> simp_all [Memory.below]
  | (k, w) :: m, h => by
    have ih := @Memory.write_below n a ha v m
    simp only [Memory.below, List.all_cons, Bool.and_eq_true, decide_eq_true_eq] at h ih ⊢
    unfold Memory.write
    split_ifs
    · exact List.all_cons.trans (by simpa [Memory.below] using h)
    · simpa [Memory.below, ha] using h
    · simpa [Memory.below] using h.2
    · simpa [Memory.below, ha] using h.2
    · simpa [Memory.below, h.1] using ih (by simpa [Memory.below] using h.2)

/-- A memory built from a rising range of addresses, listing no unwritten byte, is canonical: the shape of `freeMemory`. -/
theorem Memory.filterMap_range'_wf (f : Nat → Option Host.Cell)
    (hf : ∀ a c, f a = some c → c.1 = a ∧ c.2 ≠ unwrittenByte) :
    ∀ n lo : Nat, Memory.wfAbove lo ((List.range' lo n).filterMap f) = true := by
  intro n
  induction n with
  | zero => intro lo; rfl
  | succ n ih =>
    intro lo
    rw [List.range'_succ, List.filterMap_cons]
    cases h : f lo with
    | none => exact Memory.wfAbove_mono (Nat.le_succ lo) (ih (lo + 1))
    | some c =>
      obtain ⟨k, w⟩ := c
      obtain ⟨rfl, hw⟩ := hf lo _ h
      simp only [Memory.wfAbove, Bool.and_eq_true, decide_eq_true_eq]
      exact ⟨⟨Nat.le_refl _, hw⟩, ih _⟩

/-- The memory that a reset event leaves is canonical. -/
theorem freeMemory_wf (size k : Nat) : (freeMemory size k).wf = true := by
  rw [freeMemory, List.range_eq_range']
  refine Memory.filterMap_range'_wf _ (fun a c h => ?_) size 0
  split at h
  · cases h
  · rename_i hw; cases h; exact ⟨rfl, hw⟩

/-- An effect on the derivative logic keeps the canonical form of its registers. -/
theorem DerivEffect.apply_wf {d : DerivState} (h : d.regs.wf = true) (e : DerivEffect) : (e.apply d).regs.wf = true := by
  have key : ∀ (ws : List (Byte × Byte)) (m : Memory), m.wf = true →
      (ws.foldl (fun m w => m.write w.1.toNat w.2) m).wf = true := by
    intro ws
    induction ws with
    | nil => exact fun m hm => hm
    | cons w ws ih => exact fun m hm => ih _ (Memory.write_wf hm _ _)
  exact key e.writes d.regs h

/-- An effect on the derivative logic keeps its registers at 8-bit addresses. -/
theorem DerivEffect.apply_below {d : DerivState} (h : d.regs.below 256 = true) (e : DerivEffect) :
    (e.apply d).regs.below 256 = true := by
  have key : ∀ (ws : List (Byte × Byte)) (m : Memory), m.below 256 = true →
      (ws.foldl (fun m w => m.write w.1.toNat w.2) m).below 256 = true := by
    intro ws
    induction ws with
    | nil => exact fun m hm => hm
    | cons w ws ih => exact fun m hm => ih _ (Memory.write_below w.1.isLt _ hm)
  exact key e.writes d.regs h

@[simp] theorem DerivEffect.apply_request (e : DerivEffect) (d : DerivState) : (e.apply d).request = e.request := rfl

@[simp] theorem DerivEffect.apply_inner (e : DerivEffect) (d : DerivState) : (e.apply d).inner = e.inner := rfl

@[simp] theorem DerivState.unchanged_apply (d : DerivState) : d.unchanged.apply d = d := rfl

/-- The derivative registers that a reset event leaves are canonical and at 8-bit addresses. -/
theorem derivAtReset_wf (c : Config) (d : DerivState) :
    (derivAtReset c d).regs.wf = true ∧ (derivAtReset c d).regs.below 256 = true := by
  unfold derivAtReset
  split
  · exact ⟨DerivEffect.apply_wf rfl _, DerivEffect.apply_below rfl _⟩
  · exact ⟨rfl, rfl⟩

/-- The memories of `State.reset` are canonical. -/
theorem reset_memories_wf : State.reset.rom.wf = true ∧ State.reset.ram.wf = true ∧ State.reset.deriv.regs.wf = true :=
  ⟨rfl, rfl, rfl⟩

end Sys2Proof.Machine
end

