-- ==== Sys2Proof/Laws/State.lean ====
section
/-! SUPPORT. One lemma per field per named update of `State`: a later proof rewrites with these and unfolds no update. -/

namespace Sys2Proof.Machine

section
variable (s : State)

@[simp] theorem State.setA_cfg (v : Byte) : (s.setA v).cfg = s.cfg := rfl
@[simp] theorem State.setA_rom (v : Byte) : (s.setA v).rom = s.rom := rfl
@[simp] theorem State.setA_ram (v : Byte) : (s.setA v).ram = s.ram := rfl
@[simp] theorem State.setA_a (v : Byte) : (s.setA v).a = v := rfl
@[simp] theorem State.setA_cy (v : Byte) : (s.setA v).cy = s.cy := rfl
@[simp] theorem State.setA_ac (v : Byte) : (s.setA v).ac = s.ac := rfl
@[simp] theorem State.setA_rbs (v : Byte) : (s.setA v).rbs = s.rbs := rfl
@[simp] theorem State.setA_ps (v : Byte) : (s.setA v).ps = s.ps := rfl
@[simp] theorem State.setA_sp (v : Byte) : (s.setA v).sp = s.sp := rfl
@[simp] theorem State.setA_pc (v : Byte) : (s.setA v).pc = s.pc := rfl
@[simp] theorem State.setA_mbff0 (v : Byte) : (s.setA v).mbff0 = s.mbff0 := rfl
@[simp] theorem State.setA_mbff1 (v : Byte) : (s.setA v).mbff1 = s.mbff1 := rfl
@[simp] theorem State.setA_t (v : Byte) : (s.setA v).t = s.t := rfl
@[simp] theorem State.setA_pre (v : Byte) : (s.setA v).pre = s.pre := rfl
@[simp] theorem State.setA_tmode (v : Byte) : (s.setA v).tmode = s.tmode := rfl
@[simp] theorem State.setA_tf (v : Byte) : (s.setA v).tf = s.tf := rfl
@[simp] theorem State.setA_ei (v : Byte) : (s.setA v).ei = s.ei := rfl
@[simp] theorem State.setA_si (v : Byte) : (s.setA v).si = s.si := rfl
@[simp] theorem State.setA_ti (v : Byte) : (s.setA v).ti = s.ti := rfl
@[simp] theorem State.setA_xlatch (v : Byte) : (s.setA v).xlatch = s.xlatch := rfl
@[simp] theorem State.setA_eif (v : Byte) : (s.setA v).eif = s.eif := rfl
@[simp] theorem State.setA_tif (v : Byte) : (s.setA v).tif = s.tif := rfl
@[simp] theorem State.setA_iip (v : Byte) : (s.setA v).iip = s.iip := rfl
@[simp] theorem State.setA_retrShadow (v : Byte) : (s.setA v).retrShadow = s.retrShadow := rfl
@[simp] theorem State.setA_pff0 (v : Byte) : (s.setA v).pff0 = s.pff0 := rfl
@[simp] theorem State.setA_pff1 (v : Byte) : (s.setA v).pff1 = s.pff1 := rfl
@[simp] theorem State.setA_pff2 (v : Byte) : (s.setA v).pff2 = s.pff2 := rfl
@[simp] theorem State.setA_i2c (v : Byte) : (s.setA v).i2c = s.i2c := rfl
@[simp] theorem State.setA_deriv (v : Byte) : (s.setA v).deriv = s.deriv := rfl
@[simp] theorem State.setA_mode (v : Byte) : (s.setA v).mode = s.mode := rfl
@[simp] theorem State.setA_pins (v : Byte) : (s.setA v).pins = s.pins := rfl
@[simp] theorem State.setA_t0High (v : Byte) : (s.setA v).t0High = s.t0High := rfl
@[simp] theorem State.setA_env (v : Byte) : (s.setA v).env = s.env := rfl
@[simp] theorem State.setA_draws (v : Byte) : (s.setA v).draws = s.draws := rfl

@[simp] theorem State.setCy_cfg (c : Bool) : (s.setCy c).cfg = s.cfg := rfl
@[simp] theorem State.setCy_rom (c : Bool) : (s.setCy c).rom = s.rom := rfl
@[simp] theorem State.setCy_ram (c : Bool) : (s.setCy c).ram = s.ram := rfl
@[simp] theorem State.setCy_a (c : Bool) : (s.setCy c).a = s.a := rfl
@[simp] theorem State.setCy_cy (c : Bool) : (s.setCy c).cy = c := rfl
@[simp] theorem State.setCy_ac (c : Bool) : (s.setCy c).ac = s.ac := rfl
@[simp] theorem State.setCy_rbs (c : Bool) : (s.setCy c).rbs = s.rbs := rfl
@[simp] theorem State.setCy_ps (c : Bool) : (s.setCy c).ps = s.ps := rfl
@[simp] theorem State.setCy_sp (c : Bool) : (s.setCy c).sp = s.sp := rfl
@[simp] theorem State.setCy_pc (c : Bool) : (s.setCy c).pc = s.pc := rfl
@[simp] theorem State.setCy_mbff0 (c : Bool) : (s.setCy c).mbff0 = s.mbff0 := rfl
@[simp] theorem State.setCy_mbff1 (c : Bool) : (s.setCy c).mbff1 = s.mbff1 := rfl
@[simp] theorem State.setCy_t (c : Bool) : (s.setCy c).t = s.t := rfl
@[simp] theorem State.setCy_pre (c : Bool) : (s.setCy c).pre = s.pre := rfl
@[simp] theorem State.setCy_tmode (c : Bool) : (s.setCy c).tmode = s.tmode := rfl
@[simp] theorem State.setCy_tf (c : Bool) : (s.setCy c).tf = s.tf := rfl
@[simp] theorem State.setCy_ei (c : Bool) : (s.setCy c).ei = s.ei := rfl
@[simp] theorem State.setCy_si (c : Bool) : (s.setCy c).si = s.si := rfl
@[simp] theorem State.setCy_ti (c : Bool) : (s.setCy c).ti = s.ti := rfl
@[simp] theorem State.setCy_xlatch (c : Bool) : (s.setCy c).xlatch = s.xlatch := rfl
@[simp] theorem State.setCy_eif (c : Bool) : (s.setCy c).eif = s.eif := rfl
@[simp] theorem State.setCy_tif (c : Bool) : (s.setCy c).tif = s.tif := rfl
@[simp] theorem State.setCy_iip (c : Bool) : (s.setCy c).iip = s.iip := rfl
@[simp] theorem State.setCy_retrShadow (c : Bool) : (s.setCy c).retrShadow = s.retrShadow := rfl
@[simp] theorem State.setCy_pff0 (c : Bool) : (s.setCy c).pff0 = s.pff0 := rfl
@[simp] theorem State.setCy_pff1 (c : Bool) : (s.setCy c).pff1 = s.pff1 := rfl
@[simp] theorem State.setCy_pff2 (c : Bool) : (s.setCy c).pff2 = s.pff2 := rfl
@[simp] theorem State.setCy_i2c (c : Bool) : (s.setCy c).i2c = s.i2c := rfl
@[simp] theorem State.setCy_deriv (c : Bool) : (s.setCy c).deriv = s.deriv := rfl
@[simp] theorem State.setCy_mode (c : Bool) : (s.setCy c).mode = s.mode := rfl
@[simp] theorem State.setCy_pins (c : Bool) : (s.setCy c).pins = s.pins := rfl
@[simp] theorem State.setCy_t0High (c : Bool) : (s.setCy c).t0High = s.t0High := rfl
@[simp] theorem State.setCy_env (c : Bool) : (s.setCy c).env = s.env := rfl
@[simp] theorem State.setCy_draws (c : Bool) : (s.setCy c).draws = s.draws := rfl

@[simp] theorem State.setPc_cfg (p : CodeAddr) : (s.setPc p).cfg = s.cfg := rfl
@[simp] theorem State.setPc_rom (p : CodeAddr) : (s.setPc p).rom = s.rom := rfl
@[simp] theorem State.setPc_ram (p : CodeAddr) : (s.setPc p).ram = s.ram := rfl
@[simp] theorem State.setPc_a (p : CodeAddr) : (s.setPc p).a = s.a := rfl
@[simp] theorem State.setPc_cy (p : CodeAddr) : (s.setPc p).cy = s.cy := rfl
@[simp] theorem State.setPc_ac (p : CodeAddr) : (s.setPc p).ac = s.ac := rfl
@[simp] theorem State.setPc_rbs (p : CodeAddr) : (s.setPc p).rbs = s.rbs := rfl
@[simp] theorem State.setPc_ps (p : CodeAddr) : (s.setPc p).ps = s.ps := rfl
@[simp] theorem State.setPc_sp (p : CodeAddr) : (s.setPc p).sp = s.sp := rfl
@[simp] theorem State.setPc_pc (p : CodeAddr) : (s.setPc p).pc = p := rfl
@[simp] theorem State.setPc_mbff0 (p : CodeAddr) : (s.setPc p).mbff0 = s.mbff0 := rfl
@[simp] theorem State.setPc_mbff1 (p : CodeAddr) : (s.setPc p).mbff1 = s.mbff1 := rfl
@[simp] theorem State.setPc_t (p : CodeAddr) : (s.setPc p).t = s.t := rfl
@[simp] theorem State.setPc_pre (p : CodeAddr) : (s.setPc p).pre = s.pre := rfl
@[simp] theorem State.setPc_tmode (p : CodeAddr) : (s.setPc p).tmode = s.tmode := rfl
@[simp] theorem State.setPc_tf (p : CodeAddr) : (s.setPc p).tf = s.tf := rfl
@[simp] theorem State.setPc_ei (p : CodeAddr) : (s.setPc p).ei = s.ei := rfl
@[simp] theorem State.setPc_si (p : CodeAddr) : (s.setPc p).si = s.si := rfl
@[simp] theorem State.setPc_ti (p : CodeAddr) : (s.setPc p).ti = s.ti := rfl
@[simp] theorem State.setPc_xlatch (p : CodeAddr) : (s.setPc p).xlatch = s.xlatch := rfl
@[simp] theorem State.setPc_eif (p : CodeAddr) : (s.setPc p).eif = s.eif := rfl
@[simp] theorem State.setPc_tif (p : CodeAddr) : (s.setPc p).tif = s.tif := rfl
@[simp] theorem State.setPc_iip (p : CodeAddr) : (s.setPc p).iip = s.iip := rfl
@[simp] theorem State.setPc_retrShadow (p : CodeAddr) : (s.setPc p).retrShadow = s.retrShadow := rfl
@[simp] theorem State.setPc_pff0 (p : CodeAddr) : (s.setPc p).pff0 = s.pff0 := rfl
@[simp] theorem State.setPc_pff1 (p : CodeAddr) : (s.setPc p).pff1 = s.pff1 := rfl
@[simp] theorem State.setPc_pff2 (p : CodeAddr) : (s.setPc p).pff2 = s.pff2 := rfl
@[simp] theorem State.setPc_i2c (p : CodeAddr) : (s.setPc p).i2c = s.i2c := rfl
@[simp] theorem State.setPc_deriv (p : CodeAddr) : (s.setPc p).deriv = s.deriv := rfl
@[simp] theorem State.setPc_mode (p : CodeAddr) : (s.setPc p).mode = s.mode := rfl
@[simp] theorem State.setPc_pins (p : CodeAddr) : (s.setPc p).pins = s.pins := rfl
@[simp] theorem State.setPc_t0High (p : CodeAddr) : (s.setPc p).t0High = s.t0High := rfl
@[simp] theorem State.setPc_env (p : CodeAddr) : (s.setPc p).env = s.env := rfl
@[simp] theorem State.setPc_draws (p : CodeAddr) : (s.setPc p).draws = s.draws := rfl

@[simp] theorem State.setSp_cfg (n : BitVec 3) : (s.setSp n).cfg = s.cfg := rfl
@[simp] theorem State.setSp_rom (n : BitVec 3) : (s.setSp n).rom = s.rom := rfl
@[simp] theorem State.setSp_ram (n : BitVec 3) : (s.setSp n).ram = s.ram := rfl
@[simp] theorem State.setSp_a (n : BitVec 3) : (s.setSp n).a = s.a := rfl
@[simp] theorem State.setSp_cy (n : BitVec 3) : (s.setSp n).cy = s.cy := rfl
@[simp] theorem State.setSp_ac (n : BitVec 3) : (s.setSp n).ac = s.ac := rfl
@[simp] theorem State.setSp_rbs (n : BitVec 3) : (s.setSp n).rbs = s.rbs := rfl
@[simp] theorem State.setSp_ps (n : BitVec 3) : (s.setSp n).ps = s.ps := rfl
@[simp] theorem State.setSp_sp (n : BitVec 3) : (s.setSp n).sp = n := rfl
@[simp] theorem State.setSp_pc (n : BitVec 3) : (s.setSp n).pc = s.pc := rfl
@[simp] theorem State.setSp_mbff0 (n : BitVec 3) : (s.setSp n).mbff0 = s.mbff0 := rfl
@[simp] theorem State.setSp_mbff1 (n : BitVec 3) : (s.setSp n).mbff1 = s.mbff1 := rfl
@[simp] theorem State.setSp_t (n : BitVec 3) : (s.setSp n).t = s.t := rfl
@[simp] theorem State.setSp_pre (n : BitVec 3) : (s.setSp n).pre = s.pre := rfl
@[simp] theorem State.setSp_tmode (n : BitVec 3) : (s.setSp n).tmode = s.tmode := rfl
@[simp] theorem State.setSp_tf (n : BitVec 3) : (s.setSp n).tf = s.tf := rfl
@[simp] theorem State.setSp_ei (n : BitVec 3) : (s.setSp n).ei = s.ei := rfl
@[simp] theorem State.setSp_si (n : BitVec 3) : (s.setSp n).si = s.si := rfl
@[simp] theorem State.setSp_ti (n : BitVec 3) : (s.setSp n).ti = s.ti := rfl
@[simp] theorem State.setSp_xlatch (n : BitVec 3) : (s.setSp n).xlatch = s.xlatch := rfl
@[simp] theorem State.setSp_eif (n : BitVec 3) : (s.setSp n).eif = s.eif := rfl
@[simp] theorem State.setSp_tif (n : BitVec 3) : (s.setSp n).tif = s.tif := rfl
@[simp] theorem State.setSp_iip (n : BitVec 3) : (s.setSp n).iip = s.iip := rfl
@[simp] theorem State.setSp_retrShadow (n : BitVec 3) : (s.setSp n).retrShadow = s.retrShadow := rfl
@[simp] theorem State.setSp_pff0 (n : BitVec 3) : (s.setSp n).pff0 = s.pff0 := rfl
@[simp] theorem State.setSp_pff1 (n : BitVec 3) : (s.setSp n).pff1 = s.pff1 := rfl
@[simp] theorem State.setSp_pff2 (n : BitVec 3) : (s.setSp n).pff2 = s.pff2 := rfl
@[simp] theorem State.setSp_i2c (n : BitVec 3) : (s.setSp n).i2c = s.i2c := rfl
@[simp] theorem State.setSp_deriv (n : BitVec 3) : (s.setSp n).deriv = s.deriv := rfl
@[simp] theorem State.setSp_mode (n : BitVec 3) : (s.setSp n).mode = s.mode := rfl
@[simp] theorem State.setSp_pins (n : BitVec 3) : (s.setSp n).pins = s.pins := rfl
@[simp] theorem State.setSp_t0High (n : BitVec 3) : (s.setSp n).t0High = s.t0High := rfl
@[simp] theorem State.setSp_env (n : BitVec 3) : (s.setSp n).env = s.env := rfl
@[simp] theorem State.setSp_draws (n : BitVec 3) : (s.setSp n).draws = s.draws := rfl

@[simp] theorem State.setRam_cfg (m : Memory) : (s.setRam m).cfg = s.cfg := rfl
@[simp] theorem State.setRam_rom (m : Memory) : (s.setRam m).rom = s.rom := rfl
@[simp] theorem State.setRam_ram (m : Memory) : (s.setRam m).ram = m := rfl
@[simp] theorem State.setRam_a (m : Memory) : (s.setRam m).a = s.a := rfl
@[simp] theorem State.setRam_cy (m : Memory) : (s.setRam m).cy = s.cy := rfl
@[simp] theorem State.setRam_ac (m : Memory) : (s.setRam m).ac = s.ac := rfl
@[simp] theorem State.setRam_rbs (m : Memory) : (s.setRam m).rbs = s.rbs := rfl
@[simp] theorem State.setRam_ps (m : Memory) : (s.setRam m).ps = s.ps := rfl
@[simp] theorem State.setRam_sp (m : Memory) : (s.setRam m).sp = s.sp := rfl
@[simp] theorem State.setRam_pc (m : Memory) : (s.setRam m).pc = s.pc := rfl
@[simp] theorem State.setRam_mbff0 (m : Memory) : (s.setRam m).mbff0 = s.mbff0 := rfl
@[simp] theorem State.setRam_mbff1 (m : Memory) : (s.setRam m).mbff1 = s.mbff1 := rfl
@[simp] theorem State.setRam_t (m : Memory) : (s.setRam m).t = s.t := rfl
@[simp] theorem State.setRam_pre (m : Memory) : (s.setRam m).pre = s.pre := rfl
@[simp] theorem State.setRam_tmode (m : Memory) : (s.setRam m).tmode = s.tmode := rfl
@[simp] theorem State.setRam_tf (m : Memory) : (s.setRam m).tf = s.tf := rfl
@[simp] theorem State.setRam_ei (m : Memory) : (s.setRam m).ei = s.ei := rfl
@[simp] theorem State.setRam_si (m : Memory) : (s.setRam m).si = s.si := rfl
@[simp] theorem State.setRam_ti (m : Memory) : (s.setRam m).ti = s.ti := rfl
@[simp] theorem State.setRam_xlatch (m : Memory) : (s.setRam m).xlatch = s.xlatch := rfl
@[simp] theorem State.setRam_eif (m : Memory) : (s.setRam m).eif = s.eif := rfl
@[simp] theorem State.setRam_tif (m : Memory) : (s.setRam m).tif = s.tif := rfl
@[simp] theorem State.setRam_iip (m : Memory) : (s.setRam m).iip = s.iip := rfl
@[simp] theorem State.setRam_retrShadow (m : Memory) : (s.setRam m).retrShadow = s.retrShadow := rfl
@[simp] theorem State.setRam_pff0 (m : Memory) : (s.setRam m).pff0 = s.pff0 := rfl
@[simp] theorem State.setRam_pff1 (m : Memory) : (s.setRam m).pff1 = s.pff1 := rfl
@[simp] theorem State.setRam_pff2 (m : Memory) : (s.setRam m).pff2 = s.pff2 := rfl
@[simp] theorem State.setRam_i2c (m : Memory) : (s.setRam m).i2c = s.i2c := rfl
@[simp] theorem State.setRam_deriv (m : Memory) : (s.setRam m).deriv = s.deriv := rfl
@[simp] theorem State.setRam_mode (m : Memory) : (s.setRam m).mode = s.mode := rfl
@[simp] theorem State.setRam_pins (m : Memory) : (s.setRam m).pins = s.pins := rfl
@[simp] theorem State.setRam_t0High (m : Memory) : (s.setRam m).t0High = s.t0High := rfl
@[simp] theorem State.setRam_env (m : Memory) : (s.setRam m).env = s.env := rfl
@[simp] theorem State.setRam_draws (m : Memory) : (s.setRam m).draws = s.draws := rfl

@[simp] theorem State.setI2c_cfg (c : I2C) : (s.setI2c c).cfg = s.cfg := rfl
@[simp] theorem State.setI2c_rom (c : I2C) : (s.setI2c c).rom = s.rom := rfl
@[simp] theorem State.setI2c_ram (c : I2C) : (s.setI2c c).ram = s.ram := rfl
@[simp] theorem State.setI2c_a (c : I2C) : (s.setI2c c).a = s.a := rfl
@[simp] theorem State.setI2c_cy (c : I2C) : (s.setI2c c).cy = s.cy := rfl
@[simp] theorem State.setI2c_ac (c : I2C) : (s.setI2c c).ac = s.ac := rfl
@[simp] theorem State.setI2c_rbs (c : I2C) : (s.setI2c c).rbs = s.rbs := rfl
@[simp] theorem State.setI2c_ps (c : I2C) : (s.setI2c c).ps = s.ps := rfl
@[simp] theorem State.setI2c_sp (c : I2C) : (s.setI2c c).sp = s.sp := rfl
@[simp] theorem State.setI2c_pc (c : I2C) : (s.setI2c c).pc = s.pc := rfl
@[simp] theorem State.setI2c_mbff0 (c : I2C) : (s.setI2c c).mbff0 = s.mbff0 := rfl
@[simp] theorem State.setI2c_mbff1 (c : I2C) : (s.setI2c c).mbff1 = s.mbff1 := rfl
@[simp] theorem State.setI2c_t (c : I2C) : (s.setI2c c).t = s.t := rfl
@[simp] theorem State.setI2c_pre (c : I2C) : (s.setI2c c).pre = s.pre := rfl
@[simp] theorem State.setI2c_tmode (c : I2C) : (s.setI2c c).tmode = s.tmode := rfl
@[simp] theorem State.setI2c_tf (c : I2C) : (s.setI2c c).tf = s.tf := rfl
@[simp] theorem State.setI2c_ei (c : I2C) : (s.setI2c c).ei = s.ei := rfl
@[simp] theorem State.setI2c_si (c : I2C) : (s.setI2c c).si = s.si := rfl
@[simp] theorem State.setI2c_ti (c : I2C) : (s.setI2c c).ti = s.ti := rfl
@[simp] theorem State.setI2c_xlatch (c : I2C) : (s.setI2c c).xlatch = s.xlatch := rfl
@[simp] theorem State.setI2c_eif (c : I2C) : (s.setI2c c).eif = s.eif := rfl
@[simp] theorem State.setI2c_tif (c : I2C) : (s.setI2c c).tif = s.tif := rfl
@[simp] theorem State.setI2c_iip (c : I2C) : (s.setI2c c).iip = s.iip := rfl
@[simp] theorem State.setI2c_retrShadow (c : I2C) : (s.setI2c c).retrShadow = s.retrShadow := rfl
@[simp] theorem State.setI2c_pff0 (c : I2C) : (s.setI2c c).pff0 = s.pff0 := rfl
@[simp] theorem State.setI2c_pff1 (c : I2C) : (s.setI2c c).pff1 = s.pff1 := rfl
@[simp] theorem State.setI2c_pff2 (c : I2C) : (s.setI2c c).pff2 = s.pff2 := rfl
@[simp] theorem State.setI2c_i2c (c : I2C) : (s.setI2c c).i2c = c := rfl
@[simp] theorem State.setI2c_deriv (c : I2C) : (s.setI2c c).deriv = s.deriv := rfl
@[simp] theorem State.setI2c_mode (c : I2C) : (s.setI2c c).mode = s.mode := rfl
@[simp] theorem State.setI2c_pins (c : I2C) : (s.setI2c c).pins = s.pins := rfl
@[simp] theorem State.setI2c_t0High (c : I2C) : (s.setI2c c).t0High = s.t0High := rfl
@[simp] theorem State.setI2c_env (c : I2C) : (s.setI2c c).env = s.env := rfl
@[simp] theorem State.setI2c_draws (c : I2C) : (s.setI2c c).draws = s.draws := rfl

@[simp] theorem State.setDeriv_cfg (d : DerivState) : (s.setDeriv d).cfg = s.cfg := rfl
@[simp] theorem State.setDeriv_rom (d : DerivState) : (s.setDeriv d).rom = s.rom := rfl
@[simp] theorem State.setDeriv_ram (d : DerivState) : (s.setDeriv d).ram = s.ram := rfl
@[simp] theorem State.setDeriv_a (d : DerivState) : (s.setDeriv d).a = s.a := rfl
@[simp] theorem State.setDeriv_cy (d : DerivState) : (s.setDeriv d).cy = s.cy := rfl
@[simp] theorem State.setDeriv_ac (d : DerivState) : (s.setDeriv d).ac = s.ac := rfl
@[simp] theorem State.setDeriv_rbs (d : DerivState) : (s.setDeriv d).rbs = s.rbs := rfl
@[simp] theorem State.setDeriv_ps (d : DerivState) : (s.setDeriv d).ps = s.ps := rfl
@[simp] theorem State.setDeriv_sp (d : DerivState) : (s.setDeriv d).sp = s.sp := rfl
@[simp] theorem State.setDeriv_pc (d : DerivState) : (s.setDeriv d).pc = s.pc := rfl
@[simp] theorem State.setDeriv_mbff0 (d : DerivState) : (s.setDeriv d).mbff0 = s.mbff0 := rfl
@[simp] theorem State.setDeriv_mbff1 (d : DerivState) : (s.setDeriv d).mbff1 = s.mbff1 := rfl
@[simp] theorem State.setDeriv_t (d : DerivState) : (s.setDeriv d).t = s.t := rfl
@[simp] theorem State.setDeriv_pre (d : DerivState) : (s.setDeriv d).pre = s.pre := rfl
@[simp] theorem State.setDeriv_tmode (d : DerivState) : (s.setDeriv d).tmode = s.tmode := rfl
@[simp] theorem State.setDeriv_tf (d : DerivState) : (s.setDeriv d).tf = s.tf := rfl
@[simp] theorem State.setDeriv_ei (d : DerivState) : (s.setDeriv d).ei = s.ei := rfl
@[simp] theorem State.setDeriv_si (d : DerivState) : (s.setDeriv d).si = s.si := rfl
@[simp] theorem State.setDeriv_ti (d : DerivState) : (s.setDeriv d).ti = s.ti := rfl
@[simp] theorem State.setDeriv_xlatch (d : DerivState) : (s.setDeriv d).xlatch = s.xlatch := rfl
@[simp] theorem State.setDeriv_eif (d : DerivState) : (s.setDeriv d).eif = s.eif := rfl
@[simp] theorem State.setDeriv_tif (d : DerivState) : (s.setDeriv d).tif = s.tif := rfl
@[simp] theorem State.setDeriv_iip (d : DerivState) : (s.setDeriv d).iip = s.iip := rfl
@[simp] theorem State.setDeriv_retrShadow (d : DerivState) : (s.setDeriv d).retrShadow = s.retrShadow := rfl
@[simp] theorem State.setDeriv_pff0 (d : DerivState) : (s.setDeriv d).pff0 = s.pff0 := rfl
@[simp] theorem State.setDeriv_pff1 (d : DerivState) : (s.setDeriv d).pff1 = s.pff1 := rfl
@[simp] theorem State.setDeriv_pff2 (d : DerivState) : (s.setDeriv d).pff2 = s.pff2 := rfl
@[simp] theorem State.setDeriv_i2c (d : DerivState) : (s.setDeriv d).i2c = s.i2c := rfl
@[simp] theorem State.setDeriv_deriv (d : DerivState) : (s.setDeriv d).deriv = d := rfl
@[simp] theorem State.setDeriv_mode (d : DerivState) : (s.setDeriv d).mode = s.mode := rfl
@[simp] theorem State.setDeriv_pins (d : DerivState) : (s.setDeriv d).pins = s.pins := rfl
@[simp] theorem State.setDeriv_t0High (d : DerivState) : (s.setDeriv d).t0High = s.t0High := rfl
@[simp] theorem State.setDeriv_env (d : DerivState) : (s.setDeriv d).env = s.env := rfl
@[simp] theorem State.setDeriv_draws (d : DerivState) : (s.setDeriv d).draws = s.draws := rfl

@[simp] theorem State.setPins_cfg (p : Pins) : (s.setPins p).cfg = s.cfg := rfl
@[simp] theorem State.setPins_rom (p : Pins) : (s.setPins p).rom = s.rom := rfl
@[simp] theorem State.setPins_ram (p : Pins) : (s.setPins p).ram = s.ram := rfl
@[simp] theorem State.setPins_a (p : Pins) : (s.setPins p).a = s.a := rfl
@[simp] theorem State.setPins_cy (p : Pins) : (s.setPins p).cy = s.cy := rfl
@[simp] theorem State.setPins_ac (p : Pins) : (s.setPins p).ac = s.ac := rfl
@[simp] theorem State.setPins_rbs (p : Pins) : (s.setPins p).rbs = s.rbs := rfl
@[simp] theorem State.setPins_ps (p : Pins) : (s.setPins p).ps = s.ps := rfl
@[simp] theorem State.setPins_sp (p : Pins) : (s.setPins p).sp = s.sp := rfl
@[simp] theorem State.setPins_pc (p : Pins) : (s.setPins p).pc = s.pc := rfl
@[simp] theorem State.setPins_mbff0 (p : Pins) : (s.setPins p).mbff0 = s.mbff0 := rfl
@[simp] theorem State.setPins_mbff1 (p : Pins) : (s.setPins p).mbff1 = s.mbff1 := rfl
@[simp] theorem State.setPins_t (p : Pins) : (s.setPins p).t = s.t := rfl
@[simp] theorem State.setPins_pre (p : Pins) : (s.setPins p).pre = s.pre := rfl
@[simp] theorem State.setPins_tmode (p : Pins) : (s.setPins p).tmode = s.tmode := rfl
@[simp] theorem State.setPins_tf (p : Pins) : (s.setPins p).tf = s.tf := rfl
@[simp] theorem State.setPins_ei (p : Pins) : (s.setPins p).ei = s.ei := rfl
@[simp] theorem State.setPins_si (p : Pins) : (s.setPins p).si = s.si := rfl
@[simp] theorem State.setPins_ti (p : Pins) : (s.setPins p).ti = s.ti := rfl
@[simp] theorem State.setPins_xlatch (p : Pins) : (s.setPins p).xlatch = s.xlatch := rfl
@[simp] theorem State.setPins_eif (p : Pins) : (s.setPins p).eif = s.eif := rfl
@[simp] theorem State.setPins_tif (p : Pins) : (s.setPins p).tif = s.tif := rfl
@[simp] theorem State.setPins_iip (p : Pins) : (s.setPins p).iip = s.iip := rfl
@[simp] theorem State.setPins_retrShadow (p : Pins) : (s.setPins p).retrShadow = s.retrShadow := rfl
@[simp] theorem State.setPins_pff0 (p : Pins) : (s.setPins p).pff0 = s.pff0 := rfl
@[simp] theorem State.setPins_pff1 (p : Pins) : (s.setPins p).pff1 = s.pff1 := rfl
@[simp] theorem State.setPins_pff2 (p : Pins) : (s.setPins p).pff2 = s.pff2 := rfl
@[simp] theorem State.setPins_i2c (p : Pins) : (s.setPins p).i2c = s.i2c := rfl
@[simp] theorem State.setPins_deriv (p : Pins) : (s.setPins p).deriv = s.deriv := rfl
@[simp] theorem State.setPins_mode (p : Pins) : (s.setPins p).mode = s.mode := rfl
@[simp] theorem State.setPins_pins (p : Pins) : (s.setPins p).pins = p := rfl
@[simp] theorem State.setPins_t0High (p : Pins) : (s.setPins p).t0High = s.t0High := rfl
@[simp] theorem State.setPins_env (p : Pins) : (s.setPins p).env = s.env := rfl
@[simp] theorem State.setPins_draws (p : Pins) : (s.setPins p).draws = s.draws := rfl

@[simp] theorem State.setDraws_cfg (n : Nat) : (s.setDraws n).cfg = s.cfg := rfl
@[simp] theorem State.setDraws_rom (n : Nat) : (s.setDraws n).rom = s.rom := rfl
@[simp] theorem State.setDraws_ram (n : Nat) : (s.setDraws n).ram = s.ram := rfl
@[simp] theorem State.setDraws_a (n : Nat) : (s.setDraws n).a = s.a := rfl
@[simp] theorem State.setDraws_cy (n : Nat) : (s.setDraws n).cy = s.cy := rfl
@[simp] theorem State.setDraws_ac (n : Nat) : (s.setDraws n).ac = s.ac := rfl
@[simp] theorem State.setDraws_rbs (n : Nat) : (s.setDraws n).rbs = s.rbs := rfl
@[simp] theorem State.setDraws_ps (n : Nat) : (s.setDraws n).ps = s.ps := rfl
@[simp] theorem State.setDraws_sp (n : Nat) : (s.setDraws n).sp = s.sp := rfl
@[simp] theorem State.setDraws_pc (n : Nat) : (s.setDraws n).pc = s.pc := rfl
@[simp] theorem State.setDraws_mbff0 (n : Nat) : (s.setDraws n).mbff0 = s.mbff0 := rfl
@[simp] theorem State.setDraws_mbff1 (n : Nat) : (s.setDraws n).mbff1 = s.mbff1 := rfl
@[simp] theorem State.setDraws_t (n : Nat) : (s.setDraws n).t = s.t := rfl
@[simp] theorem State.setDraws_pre (n : Nat) : (s.setDraws n).pre = s.pre := rfl
@[simp] theorem State.setDraws_tmode (n : Nat) : (s.setDraws n).tmode = s.tmode := rfl
@[simp] theorem State.setDraws_tf (n : Nat) : (s.setDraws n).tf = s.tf := rfl
@[simp] theorem State.setDraws_ei (n : Nat) : (s.setDraws n).ei = s.ei := rfl
@[simp] theorem State.setDraws_si (n : Nat) : (s.setDraws n).si = s.si := rfl
@[simp] theorem State.setDraws_ti (n : Nat) : (s.setDraws n).ti = s.ti := rfl
@[simp] theorem State.setDraws_xlatch (n : Nat) : (s.setDraws n).xlatch = s.xlatch := rfl
@[simp] theorem State.setDraws_eif (n : Nat) : (s.setDraws n).eif = s.eif := rfl
@[simp] theorem State.setDraws_tif (n : Nat) : (s.setDraws n).tif = s.tif := rfl
@[simp] theorem State.setDraws_iip (n : Nat) : (s.setDraws n).iip = s.iip := rfl
@[simp] theorem State.setDraws_retrShadow (n : Nat) : (s.setDraws n).retrShadow = s.retrShadow := rfl
@[simp] theorem State.setDraws_pff0 (n : Nat) : (s.setDraws n).pff0 = s.pff0 := rfl
@[simp] theorem State.setDraws_pff1 (n : Nat) : (s.setDraws n).pff1 = s.pff1 := rfl
@[simp] theorem State.setDraws_pff2 (n : Nat) : (s.setDraws n).pff2 = s.pff2 := rfl
@[simp] theorem State.setDraws_i2c (n : Nat) : (s.setDraws n).i2c = s.i2c := rfl
@[simp] theorem State.setDraws_deriv (n : Nat) : (s.setDraws n).deriv = s.deriv := rfl
@[simp] theorem State.setDraws_mode (n : Nat) : (s.setDraws n).mode = s.mode := rfl
@[simp] theorem State.setDraws_pins (n : Nat) : (s.setDraws n).pins = s.pins := rfl
@[simp] theorem State.setDraws_t0High (n : Nat) : (s.setDraws n).t0High = s.t0High := rfl
@[simp] theorem State.setDraws_env (n : Nat) : (s.setDraws n).env = s.env := rfl
@[simp] theorem State.setDraws_draws (n : Nat) : (s.setDraws n).draws = n := rfl

end

end Sys2Proof.Machine
end

