-- ==== Sys2Proof/Laws/Ops.lean ====
section
/-! SUPPORT. One lemma for each shared operation that says all it can do, and the frame of the device agents: what the timer,
the events and a whole `devices_step` leave alone. -/

namespace Sys2Proof.Machine

/-! ### Sequencing -/

theorem andThen_next {α β : Type} {x : Result α} {f : α → Result β} {r : β} :
    andThen x f = .next r ↔ ∃ v, x = .next v ∧ f v = .next r := by
  cases x <;> simp [andThen]

@[simp] theorem andThen_of_next {α β : Type} (v : α) (f : α → Result β) : andThen (.next v) f = f v := rfl

@[simp] theorem andThen_of_fault {α β : Type} (e : Fault) (f : α → Result β) : andThen (.fault e) f = .fault e := rfl

@[simp] theorem andThen_of_refused {α β : Type} (e : Refusal) (f : α → Result β) :
    andThen (.refused e) f = .refused e := rfl

/-- Of two branches, only the first goes on. -/
theorem ite_next {α : Type} {p : Prop} [Decidable p] {x v : α} {e : Result α} (he : ∀ w, e ≠ .next w) :
    (if p then .next x else e) = .next v ↔ p ∧ v = x := by
  split
  · rename_i h; exact ⟨fun hx => by cases hx; exact ⟨h, rfl⟩, fun hx => hx.2 ▸ rfl⟩
  · rename_i h; exact ⟨fun hx => absurd hx (he v), fun hx => absurd hx.1 h⟩

/-- Of two branches, only the second goes on. -/
theorem ite_next' {α : Type} {p : Prop} [Decidable p] {x : Result α} {v : α} {e : Result α} (he : ∀ w, e ≠ .next w) :
    (if p then e else x) = .next v ↔ ¬p ∧ x = .next v := by
  split
  · rename_i h; exact ⟨fun hx => absurd hx (he v), fun hx => absurd h hx.1⟩
  · rename_i h; exact ⟨fun hx => ⟨h, hx⟩, fun hx => hx.2⟩

theorem fault_ne_next {α : Type} (e : Fault) (w : α) : (.fault e : Result α) ≠ .next w := by simp

theorem refused_ne_next {α : Type} (e : Refusal) (w : α) : (.refused e : Result α) ≠ .next w := by simp

theorem next_iff {α : Type} {x v : α} : (.next x : Result α) = .next v ↔ v = x :=
  ⟨fun h => by cases h; rfl, fun h => h ▸ rfl⟩

/-! ### Data memory -/

theorem memRead_next {s : State} {a v : Byte} :
    memRead s a = .next v ↔ a.toNat < s.cfg.ramSize ∧ v = s.ram.read a.toNat := ite_next (fault_ne_next _)

theorem memWrite_next {s t : State} {a v : Byte} :
    memWrite s a v = .next t ↔ a.toNat < s.cfg.ramSize ∧ t = s.setRam (s.ram.write a.toNat v) := ite_next (fault_ne_next _)

theorem readInd_next {s : State} {p : PtrNum} {v : Byte} :
    readInd s p = .next v ↔ (pointer s p).toNat < s.cfg.ramSize ∧ v = s.ram.read (pointer s p).toNat := memRead_next

theorem writeInd_next {s t : State} {p : PtrNum} {v : Byte} :
    writeInd s p v = .next t ↔
      (pointer s p).toNat < s.cfg.ramSize ∧ t = s.setRam (s.ram.write (pointer s p).toNat v) := memWrite_next

theorem readInd_fault {s : State} {p : PtrNum} (h : s.cfg.ramSize ≤ (pointer s p).toNat) :
    readInd s p = .fault (.dataBeyondRam (pointer s p)) := if_neg (Nat.not_lt.mpr h)

theorem writeInd_fault {s : State} {p : PtrNum} {v : Byte} (h : s.cfg.ramSize ≤ (pointer s p).toNat) :
    writeInd s p v = .fault (.dataBeyondRam (pointer s p)) := if_neg (Nat.not_lt.mpr h)

theorem modifyInd_next {s t : State} {p : PtrNum} {f : Byte → Byte} :
    modifyInd s p f = .next t ↔ (pointer s p).toNat < s.cfg.ramSize ∧
      t = s.setRam (s.ram.write (pointer s p).toNat (f (s.ram.read (pointer s p).toNat))) := by
  unfold modifyInd
  simp only [andThen_next, readInd_next, writeInd_next]
  exact ⟨fun ⟨_, ⟨_, hv⟩, h⟩ => hv ▸ h, fun h => ⟨_, ⟨h.1, rfl⟩, h⟩⟩

theorem readReg_writeReg_same {s : State} (h : s.ram.wf = true) (r : RegNum) (v : Byte) :
    readReg (writeReg s r v) r = v := Memory.read_write_same h _ _

/-! ### Branches and tables -/

theorem takeInPage_next {s t : State} {b : Byte} :
    takeInPage s b = .next t ↔ pageEndRefused s = false ∧ t = s.setPc (inPage s.pc b) := by
  rw [takeInPage, ite_next' (refused_ne_next _), next_iff, Bool.not_eq_true]

theorem branchIf_next {c : Bool} {s t : State} {b : Byte} :
    branchIf c s b = .next t ↔
      (c = false ∧ t = s) ∨ (c = true ∧ pageEndRefused s = false ∧ t = s.setPc (inPage s.pc b)) := by
  cases c
  · exact ⟨fun h => .inl ⟨rfl, next_iff.mp h⟩, fun h => next_iff.mpr (by simpa using h)⟩
  · exact ⟨fun h => .inr ⟨rfl, takeInPage_next.mp h⟩, fun h => takeInPage_next.mpr (by simpa using h)⟩

theorem tableRead_next {s : State} {off v : Byte} :
    tableRead s off = .next v ↔
      pageEndRefused s = false ∧ inRom s (inPage s.pc off) = true ∧ v = romByte s (inPage s.pc off) := by
  rw [tableRead, ite_next' (refused_ne_next _), ite_next (fault_ne_next _), Bool.not_eq_true]

/-! ### Ports, derivative registers, I2C-bus registers -/

theorem onPort1_next {s k t : State} : onPort1 s k = .next t ↔ s.cfg.hasP1 = true ∧ t = k :=
  ite_next (refused_ne_next _)

theorem onPort2_next {s k t : State} : onPort2 s k = .next t ↔ s.cfg.hasP2 = true ∧ t = k :=
  ite_next (refused_ne_next _)

theorem derivRead_next {s : State} {x : Byte} {r : Byte × State} :
    derivRead s x = .next r ↔ s.cfg.derivReadable x = true ∧
      r = (((derivModel s.cfg).read s.deriv x).1, s.setDeriv (((derivModel s.cfg).read s.deriv x).2.apply s.deriv)) :=
  ite_next (refused_ne_next _)

theorem derivWrite_next {s t : State} {x v : Byte} :
    derivWrite s x v = .next t ↔ s.cfg.derivWritable x = true ∧
      t = s.setDeriv (((derivModel s.cfg).write s.deriv x v).apply s.deriv) :=
  ite_next (refused_ne_next _)

/-- A read and a write of a derivative register in one instruction: the effect of the write comes after that of the read, and
nothing but the derivative logic changes. -/
theorem modifyDeriv_next {s t : State} {x : Byte} {f : Byte → Byte} :
    modifyDeriv s x f = .next t ↔ s.cfg.derivReadable x = true ∧ s.cfg.derivWritable x = true ∧
      let r := (derivModel s.cfg).read s.deriv x
      t = s.setDeriv (((derivModel s.cfg).write (r.2.apply s.deriv) x (f r.1)).apply (r.2.apply s.deriv)) := by
  unfold modifyDeriv
  simp only [andThen_next, derivRead_next, derivWrite_next]
  constructor
  · rintro ⟨r, ⟨hr, rfl⟩, hw, rfl⟩; exact ⟨hr, hw, rfl⟩
  · rintro ⟨hr, hw, rfl⟩; exact ⟨_, ⟨hr, rfl⟩, hw, rfl⟩

theorem onI2C_next {s t : State} {k : Result State} : onI2C s k = .next t ↔ s.cfg.hasI2C = true ∧ k = .next t := by
  unfold onI2C
  split
  · rename_i h; exact ⟨fun hx => ⟨h, hx⟩, fun hx => hx.2⟩
  · rename_i h; exact ⟨fun hx => absurd hx (refused_ne_next _ _), fun hx => absurd hx.1 h⟩

theorem writeS1_next {c d : I2C} {g : S1Gate} {v : Byte} :
    c.writeS1 g v = .next d ↔
      (c.s1Inhibited = true ∧ d = { c with bb := c.bb && v.getLsbD 5 })
        ∨ (c.s1Inhibited = false ∧ c.s1GateOpen g v = true ∧ v.getLsbD 4 = true ∧ d = c.s1Act v)
        ∨ (c.s1Inhibited = false ∧ c.s1GateOpen g v = false ∧ d = { c with eso := v.getLsbD 3 }) := by
  unfold I2C.writeS1; split_ifs <;> simp_all [next_iff, -Host.Outcome.next.injEq]

/-- A cancel of PIN leaves PIN = 1 and AL and AAS clear, whatever PIN was. -/
theorem cancelPin_clears (c : I2C) : c.cancelPin.pin = true ∧ c.cancelPin.al = false ∧ c.cancelPin.aas = false := by
  unfold I2C.cancelPin; split_ifs with h
  · exact ⟨h, rfl, rfl⟩
  · exact ⟨rfl, rfl, rfl⟩

/-- A cancel of PIN changes PIN, AL, AAS, BCNT and AD0 (with the model's record of it) alone. -/
theorem cancelPin_frame (c : I2C) :
    c.cancelPin = { c with
      pin := true, al := false, aas := false, bcnt := c.cancelPin.bcnt, ad0 := c.cancelPin.ad0
      ad0Due := c.cancelPin.ad0Due } := by
  unfold I2C.cancelPin; split_ifs with h
  · rw [← h]
  · rfl

/-- A cancel of a PIN that is 1 already changes AL and AAS alone (R354). -/
theorem cancelPin_of_cancelled {c : I2C} (h : c.pin = true) : c.cancelPin = { c with al := false, aas := false } :=
  if_pos h

theorem storeS0_next {s t : State} {v : Byte} :
    storeS0 s v = .next t ↔ s.cfg.hasI2C = true ∧ t = s.setI2c (s.i2c.writeS0 v) := by
  rw [storeS0, onI2C_next, next_iff]

theorem storeS1_next {s t : State} {v : Byte} :
    storeS1 s v = .next t ↔
      s.cfg.hasI2C = true ∧ ∃ c, s.i2c.writeS1 s.cfg.s1Gate v = .next c ∧ t = s.setI2c c := by
  simp only [storeS1, onI2C_next, andThen_next, next_iff]

theorem storeS2_next {s t : State} {v : Byte} :
    storeS2 s v = .next t ↔ s.cfg.hasI2C = true ∧ t = s.setI2c (s.i2c.writeS2 v) := by
  rw [storeS2, onI2C_next, next_iff]

/-! ### The stack and interrupts -/

/-- A push writes the two locations of the level and nothing else of data memory. -/
theorem push_read_other {s : State} {ret : CodeAddr} {b : Nat} (h1 : b ≠ hiAddr s.cfg s.sp) (h2 : b ≠ loAddr s.cfg s.sp) :
    (push s ret).ram.read b = s.ram.read b :=
  (Memory.read_write_other h2 _ _).trans (Memory.read_write_other h1 _ _)

/-- The two locations of a level differ. -/
theorem hiAddr_ne_loAddr (c : Config) (n : BitVec 3) : hiAddr c n ≠ loAddr c n := by
  unfold hiAddr loAddr; split <;> omega

theorem push_read_hi {s : State} (h : s.ram.wf = true) (ret : CodeAddr) :
    (push s ret).ram.read (hiAddr s.cfg s.sp) = stackHi s.cy s.ac s.rbs ret :=
  (Memory.read_write_other (hiAddr_ne_loAddr _ _) _ _).trans (Memory.read_write_same h _ _)

theorem push_read_lo {s : State} (h : s.ram.wf = true) (ret : CodeAddr) :
    (push s ret).ram.read (loAddr s.cfg s.sp) = stackLo ret :=
  Memory.read_write_same (Memory.write_wf h _ _) _ _

/-- A push changes data memory and the Stack Pointer alone. -/
theorem push_frame (s : State) (ret : CodeAddr) : push s ret = { s with ram := (push s ret).ram, sp := s.sp + 1 } := rfl

theorem push_wf {s : State} (h : s.ram.wf = true) (ret : CodeAddr) : (push s ret).ram.wf = true :=
  Memory.write_wf (Memory.write_wf h _ _) _ _

theorem returnFromSubroutine_next {s t : State} :
    returnFromSubroutine s = .next t ↔
      ¬(s.iip = true ∧ (stackLevel s (s.sp - 1)).ret.extractLsb' 11 2 ≠ 0)
        ∧ t = (s.setSp (s.sp - 1)).setPc (stackLevel s (s.sp - 1)).ret := by
  refine (ite_next' (refused_ne_next _)).trans ?_
  rw [next_iff, Bool.and_eq_true, decide_eq_true_eq]

/-- Taking an interrupt changes the stack, the request flip-flops, IIP, PC and the power mode alone. -/
theorem takeInterrupt_frame (s : State) (src : IntSource) :
    takeInterrupt s src =
      { s with
        ram := (push s s.pc).ram
        sp := s.sp + 1
        eif := s.eif && decide (src ≠ .external)
        xlatch := s.xlatch && decide (src ≠ .external)
        tif := s.tif && decide (src ≠ .timer)
        iip := true
        pc := src.vector
        mode := if s.mode = .idle then .normal else s.mode } := by
  cases src <;> simp only [takeInterrupt, clearRequest, push] <;> simp

/-! ### The frame of the device agents -/

/-- `u` differs from `s` at most in what the timer, the pins' levels and edges, the I2C-bus interface and the derivative logic
own. -/
def DevicesOnly (s u : State) : Prop :=
  u = { s with
    t := u.t, pre := u.pre, tf := u.tf, tif := u.tif, xlatch := u.xlatch, eif := u.eif, i2c := u.i2c
    deriv := u.deriv, pins := u.pins, t0High := u.t0High, env := u.env }

theorem DevicesOnly.refl (s : State) : DevicesOnly s s := rfl

theorem DevicesOnly.trans {s u w : State} (h1 : DevicesOnly s u) (h2 : DevicesOnly u w) : DevicesOnly s w := by
  unfold DevicesOnly at *; rw [h2, h1]

theorem countT_devicesOnly (s : State) : DevicesOnly s (countT s) := rfl

theorem timerCycle_devicesOnly (s : State) : DevicesOnly s (timerCycle s) := by
  unfold timerCycle; split_ifs <;> rfl

theorem timerCycles_devicesOnly (n : Nat) : ∀ s, DevicesOnly s (timerCycles n s) := by
  induction n with
  | zero => exact fun s => rfl
  | succ n ih => exact fun s => (timerCycle_devicesOnly s).trans (ih _)

theorem i2cEvent_devicesOnly (s : State) (f : I2C → I2C) : DevicesOnly s (i2cEvent s f) := by
  unfold i2cEvent; split <;> rfl

/-- A step of the derivative logic changes its state alone, by its step function or not at all. -/
theorem derivStep_cases (s : State) (i : DerivInput) :
    derivStep s i = s ∨ derivStep s i = s.setDeriv (((derivModel s.cfg).step s.deriv i).apply s.deriv) := by
  unfold derivStep; split
  · exact .inr rfl
  · exact .inl rfl

theorem applyEvent_devicesOnly (n : Nat) (s : State) (e : EnvEvent) : DevicesOnly s (applyEvent n s e).2 := by
  cases e with
  | i2cStart => exact i2cEvent_devicesOnly s _
  | i2cFirstByte b last => exact i2cEvent_devicesOnly s fun c => c.onFirstByte b last
  | i2cByteDone b last => exact i2cEvent_devicesOnly s fun c => c.onByteDone b last
  | i2cBit b last => exact i2cEvent_devicesOnly s fun c => c.onBit b last
  | i2cArbitrationLost => exact i2cEvent_devicesOnly s _
  | i2cStop => exact i2cEvent_devicesOnly s _
  | extEdge => simp only [applyEvent, extEdge]; split <;> rfl
  | t1Edge => simp only [applyEvent, t1Edge]; split_ifs <;> rfl
  | derivStep => simp only [applyEvent, derivStep]; split <;> rfl
  | resetLevel | t0Level | t1Level | port0Ext | port1Ext | port2Ext => rfl

theorem applyEvents_devicesOnly (es : List EnvEvent) : ∀ n s, DevicesOnly s (applyEvents n s es) := by
  induction es with
  | nil => exact fun n s => rfl
  | cons e es ih => exact fun n s => (applyEvent_devicesOnly n s e).trans (ih _ _)

theorem environment_devicesOnly (n : Nat) (s : State) : DevicesOnly s (environment n s) := by
  unfold environment
  split
  · rfl
  · exact DevicesOnly.trans (u := { s with env := _ }) rfl (applyEvents_devicesOnly _ _ _)

/-- A `devices_step` leaves alone everything but what the device agents own. -/
theorem devicesStep_devicesOnly (n : Nat) (s : State) : DevicesOnly s (devicesStep n s) :=
  (timerCycles_devicesOnly n s).trans (environment_devicesOnly n _)

/-! ### The step -/

theorem fetchByte_next {s : State} {p : CodeAddr} {b : Byte} :
    fetchByte s p = .next b ↔ inRom s p = true ∧ b = romByte s p := by
  exact ite_next (fault_ne_next _)

/-- A fetch answers the instruction of the opcode's row, and changes PC alone. -/
theorem fetch_next {s t : State} {i : Instr} (h : fetch s = .next (i, t)) :
    ∃ row, lookupOpcode (romByte s s.pc) = some row ∧ inRom s s.pc = true ∧
      ((row.bytes = 2 ∧ inRom s (inc11 s.pc) = true ∧ i = row.build (romByte s s.pc) (romByte s (inc11 s.pc))
          ∧ t = s.setPc (inc11 (inc11 s.pc)))
        ∨ (row.bytes ≠ 2 ∧ i = row.build (romByte s s.pc) 0x00 ∧ t = s.setPc (inc11 s.pc))) := by
  unfold fetch at h
  obtain ⟨op, hop, h⟩ := andThen_next.mp h
  obtain ⟨hin, rfl⟩ := fetchByte_next.mp hop
  split at h
  · cases h
  · rename_i row hrow
    refine ⟨row, hrow, hin, ?_⟩
    split at h
    · rename_i hb
      obtain ⟨b2, hb2, h⟩ := andThen_next.mp h
      obtain ⟨hin2, rfl⟩ := fetchByte_next.mp hb2
      cases h
      exact .inl ⟨hb, hin2, rfl, rfl⟩
    · rename_i hb
      cases h
      exact .inr ⟨hb, rfl, rfl⟩

theorem runInstruction_next {s t : State} :
    runInstruction s = .next t ↔
      ∃ i u w, fetch s = .next (i, u) ∧ exec i u = .next w ∧ t = devicesStep i.cycles (settleShadow i w) := by
  unfold runInstruction
  simp only [andThen_next, Prod.exists]
  constructor
  · rintro ⟨i, u, hf, w, hw, h⟩
    cases h
    exact ⟨i, u, w, hf, hw, rfl⟩
  · rintro ⟨i, u, w, hf, hw, rfl⟩
    exact ⟨i, u, hf, w, hw, rfl⟩

/-- All that a step can answer with a next state: a reset, a cycle of Stop mode or its end, an idle cycle, an interrupt, an
instruction. -/
theorem step_next {s t : State} (h : step s = .next t) :
    (s.pins.reset = true ∧ t = environment 0 (doReset s))
      ∨ (s.pins.reset = false ∧ s.mode = .stop ∧ s.pins.t0 = true ∧ t = environment 0 s)
      ∨ (s.pins.reset = false ∧ s.mode = .stop ∧ s.pins.t0 = false ∧ t = environment 0 (wakeFromStop s))
      ∨ (s.pins.reset = false ∧ s.mode = .idle ∧ acceptedSource s = none ∧ t = devicesStep 1 s)
      ∨ (∃ src, s.pins.reset = false ∧ s.mode ≠ .stop ∧ acceptedSource s = some src
          ∧ t = devicesStep s.cfg.intEntryCycles (takeInterrupt s src))
      ∨ (s.pins.reset = false ∧ s.mode = .normal ∧ acceptedSource s = none ∧ runInstruction s = .next t) := by
  unfold step cpuStep at h
  split at h
  · rename_i hr; cases h; exact .inl ⟨hr, rfl⟩
  · rename_i hr
    have hr : s.pins.reset = false := by simpa using hr
    split at h
    · rename_i hm
      cases ht : s.pins.t0 <;> simp [ht] at h
      · exact .inr (.inr (.inl ⟨hr, hm, rfl, h.symm⟩))
      · exact .inr (.inl ⟨hr, hm, rfl, h.symm⟩)
    · rename_i hm
      split at h
      · rename_i src hs; cases h
        exact .inr (.inr (.inr (.inr (.inl ⟨src, hr, by simp [hm], hs, rfl⟩))))
      · rename_i hs; cases h; exact .inr (.inr (.inr (.inl ⟨hr, hm, hs, rfl⟩)))
    · rename_i hm
      split at h
      · rename_i src hs; cases h
        exact .inr (.inr (.inr (.inr (.inl ⟨src, hr, by simp [hm], hs, rfl⟩))))
      · rename_i hs; exact .inr (.inr (.inr (.inr (.inr ⟨hr, hm, hs, h⟩))))

end Sys2Proof.Machine
end

