-- ==== Sys2Proof/Laws/Run.lean ====
section
/-! SUPPORT. A run, one step at a time. -/

namespace Sys2Proof.Machine

theorem runs_zero {s t : State} : Runs 0 s t ↔ t = s := by
  unfold Runs
  simp only [Host.Core.run]
  exact ⟨fun h => by cases h; rfl, fun h => h ▸ rfl⟩

/-- A run is one step and a run from where it leads. -/
theorem runs_succ {n : Nat} {s t : State} : Runs (n + 1) s t ↔ ∃ u, step s = .next u ∧ Runs n u t := by
  unfold Runs
  simp only [Host.Core.run]
  cases h : Sys2Proof.core.step s with
  | next u => exact ⟨fun hr => ⟨u, h, hr⟩, fun ⟨v, hv, hr⟩ => by cases h.symm.trans hv; exact hr⟩
  | fault e => exact ⟨fun hr => (nomatch hr), fun ⟨v, hv, _⟩ => (nomatch h.symm.trans hv)⟩
  | refused e => exact ⟨fun hr => (nomatch hr), fun ⟨v, hv, _⟩ => (nomatch h.symm.trans hv)⟩

end Sys2Proof.Machine
end

