-- ==== Sys2Proof/Tests/Slice0.lean ====
section
/-! SUPPORT. Tests: the device checks of `WellFormed`, words written out from spec/30_encoding.md and decoded, one or two steps
of every instruction with the expected values of spec/95_test_vectors.md section 2 (a vector with an expected stop under
`stops`), and for every statement a state and operands that meet its hypotheses. -/

namespace Sys2Proof.Tests

open Sys2Proof Sys2Proof.Machine

/-- The state the vectors start from: `State.reset` with PC at 100H. -/
def start : State := { State.reset with pc := 0x0100 }

/-- The outcome is a next state with the property. -/
def holds (o : Result State) (p : State → Bool) : Bool :=
  match o with
  | .next s => p s
  | .fault _ => false
  | .refused _ => false

/-- The outcome is a stop. -/
def stops (o : Result State) : Bool :=
  match o with
  | .next _ => false
  | .fault _ => true
  | .refused _ => true

/-- The bytes decode to the instruction, with nothing left. -/
def decodesTo (x : List Byte × Instr) : Bool :=
  match decode x.1 with
  | .ok (i, []) => decide (i = x.2)
  | .ok (_, _ :: _) => false
  | .error _ => false

/-! ### WellFormed: each check refuses an ill-formed term -/

/-- A device with none of the options. -/
def bare : Config := { Config.full with hasP1 := false, hasP2 := false, hasI2C := false, hasDeriv := false }

/-- A read/write derivative register at one address, with nothing special about it. -/
def plainRegister (x : Byte) : DerivRange :=
  { lo := x, hi := x, kind := .register, access := .readWrite, mask := 0xFF, unused := 0x00, resetValue := 0x00,
    onRead := .keep, onWrite := .keep }

/-- A device with this map of derivative registers. -/
def withDeriv (map : List DerivRange) : Config := { Config.full with derivLogic := .registers map }

/-- A device whose derivative registers are 10H (read-only) and 11H (write-only). -/
def twoDeriv : Config :=
  withDeriv [{ plainRegister 0x10 with access := .readOnly }, { plainRegister 0x11 with access := .writeOnly }]

/-- A derivative port of 4 lines with P.0 push-pull, its lines at 10H and its flip-flops, set at reset, at 11H; and a register
at 12H whose high nibble is not there and reads 1s, which raises the request when read and removes it when written. -/
def derivPort : Config :=
  withDeriv [{ plainRegister 0x10 with kind := .portLine 0x11 0x01, mask := 0x0F },
             { plainRegister 0x11 with kind := .portFlipFlop, mask := 0x0F, resetValue := 0x0F },
             { plainRegister 0x12 with mask := 0x0F, unused := 0xF0, onRead := .raise, onWrite := .clear }]

theorem test_wellFormed_port1 : [Instr.inAP1, .outlP1A, .anlP1Imm 0x0F, .orlP1Imm 0xF0].all
    (fun i => !WellFormed bare i && WellFormed Config.full i) = true := by decide

theorem test_wellFormed_port2 : [Instr.inAP2, .outlP2A, .anlP2Imm 0x0F, .orlP2Imm 0xF0].all
    (fun i => !WellFormed bare i && WellFormed Config.full i) = true := by decide

theorem test_wellFormed_i2c :
    [Instr.movAS0, .movAS1, .movS0A, .movS1A, .movS2A, .movS0Imm 0, .movS1Imm 0, .movS2Imm 0].all
      (fun i => !WellFormed bare i && WellFormed Config.full i) = true := by decide

theorem test_wellFormed_derivative_logic : [Instr.movADx 0x10, .movDxA 0x10, .anlDxA 0x10, .orlDxA 0x10].all
    (fun i => !WellFormed bare i && WellFormed Config.full i) = true := by decide

theorem test_wellFormed_derivative_address : [Instr.movADx 0x12, .movDxA 0x0F].all
    (fun i => !WellFormed twoDeriv i && WellFormed Config.full i) = true := by decide

theorem test_wellFormed_port_line : WellFormed derivPort (.movADx 0x10) && !WellFormed derivPort (.movDxA 0x10)
    && !WellFormed derivPort (.anlDxA 0x10) && WellFormed derivPort (.anlDxA 0x11) = true := by decide

theorem test_wellFormed_read_only : WellFormed twoDeriv (.movADx 0x10) && !WellFormed twoDeriv (.movDxA 0x10)
    && !WellFormed twoDeriv (.anlDxA 0x10) = true := by decide

theorem test_wellFormed_write_only : WellFormed twoDeriv (.movDxA 0x11) && !WellFormed twoDeriv (.movADx 0x11)
    && !WellFormed twoDeriv (.orlDxA 0x11) = true := by decide

/-! ### Decoding: the words of spec/30_encoding.md, bit by bit -/

theorem test_decode_accumulator : [([0b0110_1101], .addARr 5), ([0b0110_0001], .addAInd 1), ([0b0000_0011,
    0b0110_1000], .addAImm 0x68), ([0b0111_1101], .addcARr 5), ([0b0111_0001], .addcAInd 1), ([0b0001_0011,
    0b0111_1101], .addcAImm 0x7D), ([0b0101_1101], .anlARr 5), ([0b0101_0001], .anlAInd 1), ([0b0101_0011,
    0b1001_0010], .anlAImm 0x92), ([0b0100_1101], .orlARr 5), ([0b0100_0001], .orlAInd 1), ([0b0100_0011,
    0b1010_0111], .orlAImm 0xA7), ([0b1101_1101], .xrlARr 5), ([0b1101_0001], .xrlAInd 1), ([0b1101_0011,
    0b1011_1100], .xrlAImm 0xBC), ([0b0001_0111], .incA), ([0b0000_0111], .decA), ([0b0010_0111], .clrA),
    ([0b0011_0111], .cplA), ([0b1110_0111], .rlA), ([0b1111_0111], .rlcA), ([0b0111_0111], .rrA), ([0b0110_0111],
    .rrcA), ([0b0101_0111], .daA), ([0b0100_0111], .swapA)].all decodesTo = true := by decide

theorem test_decode_data_moves : [([0b1111_1101], .movARr 5), ([0b1111_0001], .movAInd 1), ([0b0010_0011,
    0b0001_0111], .movAImm 0x17), ([0b1010_1101], .movRrA 5), ([0b1010_0001], .movIndA 1), ([0b1011_1101,
    0b0010_1100], .movRrImm 5 0x2C), ([0b1011_0001, 0b0011_0011], .movIndImm 1 0x33), ([0b0010_1101], .xchARr 5),
    ([0b0010_0001], .xchAInd 1), ([0b0011_0001], .xchdAInd 1), ([0b1100_0111], .movAPsw), ([0b1101_0111], .movPswA),
    ([0b1010_0011], .movpAA)].all decodesTo = true := by decide

theorem test_decode_carry_flag : [([0b1001_0111], .clrC), ([0b1010_0111], .cplC)].all decodesTo = true := by decide

theorem test_decode_register : [([0b0001_1101], .incRr 5), ([0b0001_0001], .incInd 1), ([0b1100_1101], .decRr 5),
    ([0b1100_0001], .decInd 1)].all decodesTo = true := by decide

theorem test_decode_branch : [([0b1010_0100, 0b1000_1110], .jmp 5 0x8E), ([0b1011_0011], .jmppA), ([0b1110_1101,
    0b1001_1100], .djnzRr 5 0x9C), ([0b1110_0001, 0b1010_0011], .djnzInd 1 0xA3), ([0b1101_0010, 0b1010_1010], .jb 6
    0xAA), ([0b1111_0110, 0b1011_0001], .jc 0xB1), ([0b1110_0110, 0b1011_1000], .jnc 0xB8), ([0b1100_0110,
    0b1011_1111], .jz 0xBF), ([0b1001_0110, 0b1100_0110], .jnz 0xC6), ([0b0011_0110, 0b1100_1101], .jt0 0xCD),
    ([0b0010_0110, 0b1101_0100], .jnt0 0xD4), ([0b0101_0110, 0b1101_1011], .jt1 0xDB), ([0b0100_0110, 0b1110_0010],
    .jnt1 0xE2), ([0b0001_0110, 0b1110_1001], .jtf 0xE9), ([0b0000_0110, 0b1111_0000], .jntf 0xF0)].all decodesTo =
    true := by decide

theorem test_decode_timer_event_counter : [([0b0100_0010], .movAT), ([0b0110_0010], .movTA), ([0b0100_0101],
    .strtCnt), ([0b0101_0101], .strtT), ([0b0110_0101], .stopTcnt), ([0b0010_0101], .enTcnti), ([0b0011_0101],
    .disTcnti)].all decodesTo = true := by decide

theorem test_decode_control : [([0b0000_0101], .enI), ([0b0001_0101], .disI), ([0b1100_0101], .selRb0),
    ([0b1101_0101], .selRb1), ([0b1110_0101], .selMb0), ([0b1111_0101], .selMb1), ([0b1010_0101], .selMb2),
    ([0b1011_0101], .selMb3), ([0b0010_0010], .stop), ([0b0000_0001], .idle)].all decodesTo = true := by decide

theorem test_decode_subroutine : [([0b1011_0100, 0b0110_1110], .call 5 0x6E), ([0b1000_0011], .ret), ([0b1001_0011],
    .retr)].all decodesTo = true := by decide

theorem test_decode_parallel_input_output : [([0b0000_1000], .inAP0), ([0b0000_1001], .inAP1), ([0b0000_1010],
    .inAP2), ([0b0011_1000], .outlP0A), ([0b0011_1001], .outlP1A), ([0b0011_1010], .outlP2A), ([0b1001_1000,
    0b1010_1101], .anlP0Imm 0xAD), ([0b1001_1001, 0b1011_0100], .anlP1Imm 0xB4), ([0b1001_1010, 0b1011_1011],
    .anlP2Imm 0xBB), ([0b1000_1000, 0b1100_0010], .orlP0Imm 0xC2), ([0b1000_1001, 0b1100_1001], .orlP1Imm 0xC9),
    ([0b1000_1010, 0b1101_0000], .orlP2Imm 0xD0)].all decodesTo = true := by decide

theorem test_decode_derivative_input_output : [([0b1000_1100, 0b1101_0111], .movADx 0xD7), ([0b1000_1101,
    0b1101_1110], .movDxA 0xDE), ([0b1000_1110, 0b1110_0101], .anlDxA 0xE5), ([0b1000_1111, 0b1110_1100], .orlDxA
    0xEC)].all decodesTo = true := by decide

theorem test_decode_serial_input_output : [([0b0000_1100], .movAS0), ([0b0000_1101], .movAS1), ([0b0011_1100],
    .movS0A), ([0b0011_1101], .movS1A), ([0b0011_1110], .movS2A), ([0b1001_1100, 0b0001_0110], .movS0Imm 0x16),
    ([0b1001_1101, 0b0001_1101], .movS1Imm 0x1D), ([0b1001_1110, 0b0010_0100], .movS2Imm 0x24), ([0b1000_0101],
    .enSi), ([0b1001_0101], .disSi), ([0b0000_0000], .nop)].all decodesTo = true := by decide

/-! ### One step of every instruction (spec/95_test_vectors.md section 2) -/

theorem test_addARr :
    holds (step { start with rom := [(0x0100, 0x6B)], ram := [(3, 0x49)], a := 0x38 })
      (fun s => s.a == 0x81 && !s.cy && s.ac && s.pc == 0x0101) = true := by decide

theorem test_addARr_2 :
    holds (step { start with rom := [(0x0100, 0x6F)], ram := [(31, 0x01)], rbs := true, a := 0xFF })
      (fun s => s.a == 0x00 && s.cy && s.ac && s.pc == 0x0101 && s.ram.read 31 == 0x01) = true := by decide

theorem test_addAInd :
    holds (step { start with rom := [(0x0100, 0x60)], ram := [(0, 0x20), (32, 0xF5)], a := 0x10 })
      (fun s => s.a == 0x05 && s.cy && !s.ac && s.pc == 0x0101 && s.ram.read 32 == 0xF5) = true := by decide

theorem test_addAInd_2 :
    stops (step { start with rom := [(0x0100, 0x61)], ram := [(1, 0x40)], a := 0x08,
                             cfg := { Config.full with ramSize := 64 } }) = true := by decide

theorem test_addAImm :
    holds (step { start with rom := [(0x0100, 0x03), (0x0101, 0x9C)], a := 0x64 })
      (fun s => s.a == 0x00 && s.cy && s.ac && s.pc == 0x0102) = true := by decide

theorem test_addAImm_2 :
    holds (step { start with rom := [(0x0100, 0x03)], a := 0x5A, cy := true, ac := true })
      (fun s => s.a == 0x5A && !s.cy && !s.ac && s.pc == 0x0102) = true := by decide

theorem test_addcARr :
    holds (step { start with rom := [(0x0100, 0x7A)], a := 0x0F, cy := true })
      (fun s => s.a == 0x10 && !s.cy && s.ac && s.pc == 0x0101) = true := by decide

theorem test_addcARr_2 :
    holds (step { start with rom := [(0x0100, 0x7A)], ram := [(2, 0xFF)], a := 0xFF, cy := true })
      (fun s => s.a == 0xFF && s.cy && s.ac && s.pc == 0x0101) = true := by decide

theorem test_addcAInd :
    holds (step { start with rom := [(0x0100, 0x70)], ram := [(0, 0x30), (48, 0x0E)], a := 0x01, cy := true })
      (fun s => s.a == 0x10 && !s.cy && s.ac && s.pc == 0x0101) = true := by decide

theorem test_addcAImm :
    holds (step { start with rom := [(0x0100, 0x13), (0x0101, 0xFF)], a := 0x00, cy := true })
      (fun s => s.a == 0x00 && s.cy && s.ac && s.pc == 0x0102) = true := by decide

theorem test_addcAImm_2 :
    holds (step { start with rom := [(0x0100, 0x13), (0x0101, 0x34)], a := 0x12, cy := false, ac := true })
      (fun s => s.a == 0x46 && !s.cy && !s.ac && s.pc == 0x0102) = true := by decide

theorem test_anlARr :
    holds (step { start with rom := [(0x0100, 0x5C)], ram := [(4, 0x3C)], a := 0xF0, cy := true, ac := true })
      (fun s => s.a == 0x30 && s.cy && s.ac && s.pc == 0x0101) = true := by decide

theorem test_anlAInd :
    holds (step { start with rom := [(0x0100, 0x51)], ram := [(1, 0x21), (33, 0x0F)], a := 0xAA })
      (fun s => s.a == 0x0A && !s.cy && !s.ac && s.pc == 0x0101) = true := by decide

theorem test_anlAImm :
    holds (step { start with rom := [(0x0100, 0x53), (0x0101, 0x0F)], a := 0xA5 })
      (fun s => s.a == 0x05 && !s.cy && !s.ac && s.pc == 0x0102) = true := by decide

theorem test_orlARr :
    holds (step { start with rom := [(0x0100, 0x4D)], ram := [(5, 0x18)], a := 0x81 })
      (fun s => s.a == 0x99 && !s.cy && !s.ac && s.pc == 0x0101) = true := by decide

theorem test_orlAInd :
    holds (step { start with rom := [(0x0100, 0x40)], ram := [(0, 0x22), (34, 0x80)], a := 0x01 })
      (fun s => s.a == 0x81 && !s.cy && !s.ac && s.pc == 0x0101) = true := by decide

theorem test_orlAImm :
    holds (step { start with rom := [(0x0100, 0x43), (0x0101, 0xF0)], a := 0x0A })
      (fun s => s.a == 0xFA && !s.cy && !s.ac && s.pc == 0x0102) = true := by decide

theorem test_xrlARr :
    holds (step { start with rom := [(0x0100, 0xDE)], ram := [(6, 0x0F)], a := 0xFF })
      (fun s => s.a == 0xF0 && !s.cy && !s.ac && s.pc == 0x0101) = true := by decide

theorem test_xrlAInd :
    holds (step { start with rom := [(0x0100, 0xD1)], ram := [(1, 0x23), (35, 0x55)], a := 0x55 })
      (fun s => s.a == 0x00 && !s.cy && !s.ac && s.pc == 0x0101) = true := by decide

theorem test_xrlAImm :
    holds (step { start with rom := [(0x0100, 0xD3), (0x0101, 0xFF)], a := 0x3C })
      (fun s => s.a == 0xC3 && !s.cy && !s.ac && s.pc == 0x0102) = true := by decide

theorem test_incA :
    holds (step { start with rom := [(0x0100, 0x17)], a := 0xFF, cy := false, ac := false })
      (fun s => s.a == 0x00 && !s.cy && !s.ac && s.pc == 0x0101) = true := by decide

theorem test_incA_2 :
    holds (step { start with rom := [(0x0100, 0x17)], a := 0x0F })
      (fun s => s.a == 0x10 && !s.cy && !s.ac && s.pc == 0x0101) = true := by decide

theorem test_decA :
    holds (step { start with rom := [(0x0100, 0x07)], a := 0x00, cy := false })
      (fun s => s.a == 0xFF && !s.cy && !s.ac && s.pc == 0x0101) = true := by decide

theorem test_clrA :
    holds (step { start with rom := [(0x0100, 0x27)], a := 0xC3, cy := true, ac := true })
      (fun s => s.a == 0x00 && s.cy && s.ac && s.pc == 0x0101) = true := by decide

theorem test_cplA :
    holds (step { start with rom := [(0x0100, 0x37)], a := 0xC3 })
      (fun s => s.a == 0x3C && !s.cy && !s.ac && s.pc == 0x0101) = true := by decide

theorem test_rlA :
    holds (step { start with rom := [(0x0100, 0xE7)], a := 0x81, cy := false })
      (fun s => s.a == 0x03 && !s.cy && !s.ac && s.pc == 0x0101) = true := by decide

theorem test_rlcA :
    holds (step { start with rom := [(0x0100, 0xF7)], a := 0x81, cy := false })
      (fun s => s.a == 0x02 && s.cy && !s.ac && s.pc == 0x0101) = true := by decide

theorem test_rlcA_2 :
    holds (step { start with rom := [(0x0100, 0xF7)], a := 0x40, cy := true })
      (fun s => s.a == 0x81 && !s.cy && !s.ac && s.pc == 0x0101) = true := by decide

theorem test_rrA :
    holds (step { start with rom := [(0x0100, 0x77)], a := 0x01, cy := false })
      (fun s => s.a == 0x80 && !s.cy && !s.ac && s.pc == 0x0101) = true := by decide

theorem test_rrcA :
    holds (step { start with rom := [(0x0100, 0x67)], a := 0x01, cy := false })
      (fun s => s.a == 0x00 && s.cy && !s.ac && s.pc == 0x0101) = true := by decide

theorem test_rrcA_2 :
    holds (step { start with rom := [(0x0100, 0x67)], a := 0x80, cy := true })
      (fun s => s.a == 0xC0 && !s.cy && !s.ac && s.pc == 0x0101) = true := by decide

theorem test_daA :
    holds (step { start with rom := [(0x0100, 0x57)], a := 0x9B, cy := false, ac := false,
                             cfg := { Config.full with daRule := .mcs48 } })
      (fun s => s.a == 0x01 && s.cy && !s.ac && s.pc == 0x0101) = true := by decide

theorem test_daA_2 :
    holds (step { start with rom := [(0x0100, 0x57)], a := 0x9B, cy := false, ac := false,
                             cfg := { Config.full with daRule := .datasheet } })
      (fun s => s.a == 0x01 && !s.ac && s.pc == 0x0101) = true := by decide

theorem test_swapA :
    holds (step { start with rom := [(0x0100, 0x47)], a := 0x3C, cy := true, ac := false })
      (fun s => s.a == 0xC3 && s.cy && !s.ac && s.pc == 0x0101) = true := by decide

theorem test_movARr :
    holds (step { start with rom := [(0x0100, 0xFD)], ram := [(5, 0x77)], a := 0x00 })
      (fun s => s.a == 0x77 && s.ram.read 5 == 0x77 && s.pc == 0x0101) = true := by decide

theorem test_movARr_2 :
    holds (step { start with rom := [(0x0100, 0xFD)], ram := [(5, 0x11), (29, 0x99)], rbs := true })
      (fun s => s.a == 0x99 && s.pc == 0x0101) = true := by decide

theorem test_movAInd :
    holds (step { start with rom := [(0x0100, 0xF0)], ram := [(0, 0x18), (24, 0xAB)] })
      (fun s => s.a == 0xAB && s.pc == 0x0101) = true := by decide

theorem test_movAInd_2 :
    stops (step { start with rom := [(0x0100, 0xF1)], ram := [(1, 0x80)], cfg := { Config.full with ramSize := 128 } }) = true :=
  by decide

theorem test_movAImm :
    holds (step { start with rom := [(0x0100, 0x23), (0x0101, 0x5A)], a := 0x00 })
      (fun s => s.a == 0x5A && s.pc == 0x0102) = true := by decide

theorem test_movAImm_2 :
    holds (step { start with pc := 0x07FF, rom := [(0x0000, 0xC3), (0x07FF, 0x23)], a := 0x00 })
      (fun s => s.a == 0xC3 && s.pc == 0x0001) = true := by decide

theorem test_movRrA :
    holds (step { start with rom := [(0x0100, 0xAB)], a := 0x42 })
      (fun s => s.ram.read 3 == 0x42 && s.a == 0x42 && s.pc == 0x0101) = true := by decide

theorem test_movRrA_2 :
    holds (step { start with rom := [(0x0100, 0xAB)], rbs := true, a := 0x42 })
      (fun s => s.ram.read 27 == 0x42 && s.pc == 0x0101) = true := by decide

theorem test_movIndA :
    holds (step { start with rom := [(0x0100, 0xA0)], a := 0x42 })
      (fun s => s.ram.read 0 == 0x42 && s.pc == 0x0101) = true := by decide

theorem test_movIndA_2 :
    holds (step { start with rom := [(0x0100, 0xA1)], ram := [(1, 0x0A)], a := 0x99 })
      (fun s => s.ram.read 10 == 0x99 && s.pc == 0x0101) = true := by decide

theorem test_movRrImm :
    holds (step { start with rom := [(0x0100, 0xBF), (0x0101, 0x80)] })
      (fun s => s.ram.read 7 == 0x80 && s.pc == 0x0102) = true := by decide

theorem test_movIndImm :
    holds (step { start with rom := [(0x0100, 0xB0), (0x0101, 0x12)], ram := [(0, 0x28), (1, 0x29)] })
      (fun s => s.ram.read 40 == 0x12 && s.ram.read 0 == 0x28 && s.pc == 0x0102) = true := by decide

theorem test_movIndImm_2 :
    holds (step { start with rom := [(0x0100, 0xB1), (0x0101, 0x12)], ram := [(0, 0x28), (1, 0x29)] })
      (fun s => s.ram.read 40 == 0x00 && s.ram.read 41 == 0x12 && s.pc == 0x0102) = true := by decide

theorem test_xchARr :
    holds (step { start with rom := [(0x0100, 0x2A)], ram := [(2, 0x22)], a := 0x11 })
      (fun s => s.a == 0x22 && s.ram.read 2 == 0x11 && s.pc == 0x0101) = true := by decide

theorem test_xchAInd :
    holds (step { start with rom := [(0x0100, 0x20)], ram := [(0, 0x30), (48, 0x22)], a := 0x11 })
      (fun s => s.a == 0x22 && s.ram.read 48 == 0x11 && s.pc == 0x0101) = true := by decide

theorem test_xchAInd_2 :
    holds (step { start with rom := [(0x0100, 0x20)], a := 0x11 })
      (fun s => s.a == 0x00 && s.ram.read 0 == 0x11 && s.pc == 0x0101) = true := by decide

theorem test_xchdAInd :
    holds (step { start with rom := [(0x0100, 0x31)], ram := [(1, 0x30), (48, 0xAB)], a := 0x12 })
      (fun s => s.a == 0x1B && s.ram.read 48 == 0xA2 && s.pc == 0x0101) = true := by decide

theorem test_movAPsw :
    holds (step { start with rom := [(0x0100, 0xC7)], cy := true, ac := false, rbs := true, ps := true, sp := 5 })
      (fun s => s.a == 0xBD && s.pc == 0x0101) = true := by decide

theorem test_movAPsw_2 :
    holds (step { start with rom := [(0x0100, 0xC7)], cy := false, ac := false, rbs := false, ps := false, sp := 0 })
      (fun s => s.a == 0x20 && s.pc == 0x0101) = true := by decide

theorem test_movPswA :
    holds (step { start with rom := [(0x0100, 0xD7)], a := 0xFF, cy := false, ac := false, rbs := false, sp := 2 })
      (fun s => s.ps && !s.cy && !s.ac && !s.rbs && s.sp == 2 && s.pc == 0x0101) = true := by decide

theorem test_movPswA_2 :
    holds (step { start with rom := [(0x0100, 0xD7)], a := 0xF7, ps := true })
      (fun s => !s.ps && s.pc == 0x0101) = true := by decide

theorem test_movpAA :
    holds (step { start with pc := 0x02F0, rom := [(0x0210, 0x7E), (0x02F0, 0xA3)], a := 0x10 })
      (fun s => s.a == 0x7E && s.pc == 0x02F1) = true := by decide

theorem test_movpAA_2 :
    stops (step { start with pc := 0x02FF, rom := [(0x0210, 0x7E), (0x02FF, 0xA3), (0x0310, 0x99)], a := 0x10,
                             cfg := { Config.full with pageEndRule := .refuse } }) = true := by decide

theorem test_clrC :
    holds (step { start with rom := [(0x0100, 0x97)], cy := true, ac := true })
      (fun s => !s.cy && s.ac && s.pc == 0x0101) = true := by decide

theorem test_cplC :
    holds (step { start with rom := [(0x0100, 0xA7)], cy := true })
      (fun s => !s.cy && s.pc == 0x0101) = true := by decide

theorem test_cplC_2 :
    holds (step { start with rom := [(0x0100, 0xA7)], cy := false })
      (fun s => s.cy && s.pc == 0x0101) = true := by decide

theorem test_incRr :
    holds (step { start with rom := [(0x0100, 0x18)], ram := [(0, 0xFF)], cy := false })
      (fun s => s.ram.read 0 == 0x00 && !s.cy && s.pc == 0x0101) = true := by decide

theorem test_incRr_2 :
    holds (step { start with rom := [(0x0100, 0x1F)], ram := [(31, 0x7F)], rbs := true })
      (fun s => s.ram.read 31 == 0x80 && s.pc == 0x0101) = true := by decide

theorem test_incInd :
    holds (step { start with rom := [(0x0100, 0x11)], ram := [(1, 0x20), (32, 0x0F)] })
      (fun s => s.ram.read 32 == 0x10 && s.ram.read 1 == 0x20 && s.pc == 0x0101) = true := by decide

theorem test_incInd_2 :
    holds (step { start with rom := [(0x0100, 0x10)] })
      (fun s => s.ram.read 0 == 0x01 && s.pc == 0x0101) = true := by decide

theorem test_decRr :
    holds (step { start with rom := [(0x0100, 0xCC)], cy := false })
      (fun s => s.ram.read 4 == 0xFF && !s.cy && s.pc == 0x0101) = true := by decide

theorem test_decInd :
    holds (step { start with rom := [(0x0100, 0xC0)], ram := [(0, 0x3F), (63, 0x01)] })
      (fun s => s.ram.read 63 == 0x00 && s.pc == 0x0101) = true := by decide

theorem test_jmp :
    holds (step { start with rom := [(0x0100, 0x64), (0x0101, 0x80)], mbff1 := false, mbff0 := true })
      (fun s => s.pc == 0x0B80) = true := by decide

theorem test_jmp_2 :
    holds (step { start with rom := [(0x0100, 0x64), (0x0101, 0x80)], mbff1 := false, iip := true, mbff0 := true })
      (fun s => s.pc == 0x0380 && !s.mbff1 && s.mbff0) = true := by decide

theorem test_jmppA :
    holds (step { start with pc := 0x0210, rom := [(0x0204, 0x40), (0x0210, 0xB3)], a := 0x04 })
      (fun s => s.pc == 0x0240 && s.a == 0x04) = true := by decide

theorem test_jmppA_2 :
    stops (step { start with pc := 0x02FF, rom := [(0x0204, 0x80), (0x02FF, 0xB3), (0x0304, 0x40)], a := 0x04,
                             cfg := { Config.full with pageEndRule := .refuse } }) = true := by decide

theorem test_djnzRr :
    holds (step { start with pc := 0x0120, rom := [(0x0120, 0xEA), (0x0121, 0x10)], ram := [(2, 0x02)] })
      (fun s => s.pc == 0x0110 && s.ram.read 2 == 0x01) = true := by decide

theorem test_djnzRr_2 :
    stops (step { start with pc := 0x01FE, rom := [(0x01FE, 0xE8), (0x01FF, 0x10)], ram := [(0, 0x05)],
                             cfg := { Config.full with pageEndRule := .refuse } }) = true := by decide

theorem test_djnzInd :
    holds (step { start with pc := 0x0120, rom := [(0x0120, 0xE0), (0x0121, 0x10)], ram := [(0, 0x25), (37, 0x03)] })
      (fun s => s.pc == 0x0110 && s.ram.read 37 == 0x02 && s.ram.read 0 == 0x25) = true := by decide

theorem test_djnzInd_2 :
    holds (step { start with pc := 0x0120, rom := [(0x0120, 0xE1), (0x0121, 0x10)], ram := [(1, 0x25), (37, 0x01)] })
      (fun s => s.pc == 0x0122 && s.ram.read 37 == 0x00) = true := by decide

theorem test_jb :
    holds (step { start with pc := 0x0340, rom := [(0x0340, 0x12), (0x0341, 0x77)], a := 0x01 })
      (fun s => s.pc == 0x0377) = true := by decide

theorem test_jb_2 :
    holds (step { start with pc := 0x0340, rom := [(0x0340, 0x12), (0x0341, 0x77)], a := 0xFE })
      (fun s => s.pc == 0x0342) = true := by decide

theorem test_jc :
    holds (step { start with pc := 0x0450, rom := [(0x0450, 0xF6), (0x0451, 0x05)], cy := true })
      (fun s => s.pc == 0x0405) = true := by decide

theorem test_jc_2 :
    holds (step { start with pc := 0x0450, rom := [(0x0450, 0xF6), (0x0451, 0x05)], cy := false })
      (fun s => s.pc == 0x0452) = true := by decide

theorem test_jnc :
    holds (step { start with pc := 0x0450, rom := [(0x0450, 0xE6), (0x0451, 0x05)], cy := false })
      (fun s => s.pc == 0x0405) = true := by decide

theorem test_jnc_2 :
    holds (step { start with pc := 0x0450, rom := [(0x0450, 0xE6), (0x0451, 0x05)], cy := true })
      (fun s => s.pc == 0x0452) = true := by decide

theorem test_jz :
    holds (step { start with pc := 0x0450, rom := [(0x0450, 0xC6), (0x0451, 0x05)], a := 0x00 })
      (fun s => s.pc == 0x0405) = true := by decide

theorem test_jz_2 :
    stops (step { start with pc := 0x02FE, rom := [(0x02FE, 0xC6), (0x02FF, 0x10)], a := 0x00,
                             cfg := { Config.full with pageEndRule := .refuse } }) = true := by decide

theorem test_jnz :
    holds (step { start with pc := 0x0450, rom := [(0x0450, 0x96), (0x0451, 0x05)], a := 0x01 })
      (fun s => s.pc == 0x0405) = true := by decide

theorem test_jnz_2 :
    holds (step { start with pc := 0x0450, rom := [(0x0450, 0x96), (0x0451, 0x05)], a := 0x00 })
      (fun s => s.pc == 0x0452) = true := by decide

theorem test_jt0 :
    holds (step { start with pc := 0x0450, rom := [(0x0450, 0x36), (0x0451, 0x05)],
                             pins := { State.reset.pins with t0 := true } })
      (fun s => s.pc == 0x0405) = true := by decide

theorem test_jt0_2 :
    holds (step { start with pc := 0x0450, rom := [(0x0450, 0x36), (0x0451, 0x05)],
                             pins := { State.reset.pins with t0 := false } })
      (fun s => s.pc == 0x0452) = true := by decide

theorem test_jnt0 :
    holds (step { start with pc := 0x0450, rom := [(0x0450, 0x26), (0x0451, 0x05)],
                             pins := { State.reset.pins with t0 := false } })
      (fun s => s.pc == 0x0405) = true := by decide

theorem test_jnt0_2 :
    holds (step { start with pc := 0x0450, rom := [(0x0450, 0x26), (0x0451, 0x05)],
                             pins := { State.reset.pins with t0 := true } })
      (fun s => s.pc == 0x0452) = true := by decide

theorem test_jt1 :
    holds (step { start with pc := 0x0450, rom := [(0x0450, 0x56), (0x0451, 0x05)],
                             pins := { State.reset.pins with t1 := true } })
      (fun s => s.pc == 0x0405) = true := by decide

theorem test_jt1_2 :
    holds (step { start with pc := 0x0450, rom := [(0x0450, 0x56), (0x0451, 0x05)],
                             pins := { State.reset.pins with t1 := false } })
      (fun s => s.pc == 0x0452) = true := by decide

theorem test_jnt1 :
    holds (step { start with pc := 0x0450, rom := [(0x0450, 0x46), (0x0451, 0x05)],
                             pins := { State.reset.pins with t1 := false, t0 := true } })
      (fun s => s.pc == 0x0405) = true := by decide

theorem test_jnt1_2 :
    holds (step { start with pc := 0x0450, rom := [(0x0450, 0x46), (0x0451, 0x05)],
                             pins := { State.reset.pins with t1 := true, t0 := false } })
      (fun s => s.pc == 0x0452) = true := by decide

theorem test_jtf :
    holds (step { start with pc := 0x0450, rom := [(0x0450, 0x16), (0x0451, 0x05)], tf := false })
      (fun s => s.pc == 0x0452 && !s.tf) = true := by decide

theorem test_jntf :
    holds (step { start with pc := 0x0450, rom := [(0x0450, 0x06), (0x0451, 0x05)], tf := false })
      (fun s => s.pc == 0x0405 && !s.tf) = true := by decide

theorem test_jntf_2 :
    holds (step { start with pc := 0x0450, rom := [(0x0450, 0x06), (0x0451, 0x05)], tf := true })
      (fun s => s.pc == 0x0452 && !s.tf) = true := by decide

theorem test_movAT :
    holds (step { start with rom := [(0x0100, 0x42)], t := 0x5C, tmode := .stopped })
      (fun s => s.a == 0x5C && s.t == 0x5C && s.pc == 0x0101) = true := by decide

theorem test_movAT_2 :
    holds (step { start with rom := [(0x0100, 0x42)], t := 0x5C, tmode := .timer, ps := true })
      (fun s => s.a == 0x5C && s.t == 0x5D && s.pc == 0x0101) = true := by decide

theorem test_movTA :
    holds (step { start with rom := [(0x0100, 0x62)], a := 0xF0, t := 0x11, tmode := .stopped, tf := true })
      (fun s => s.t == 0xF0 && s.tf && s.pc == 0x0101) = true := by decide

theorem test_movTA_2 :
    holds (step { start with rom := [(0x0100, 0x62)], a := 0xFF, tmode := .timer, ps := true, ti := true })
      (fun s => s.t == 0x00 && s.tf && s.tif && s.pc == 0x0101) = true := by decide

theorem test_strtCnt :
    holds (step { start with rom := [(0x0100, 0x45)], t := 0x33, tmode := .stopped,
                             cfg := { Config.full with strtCntLoadsFF := false } })
      (fun s => s.tmode == .counter && s.t == 0x33 && s.pc == 0x0101) = true := by decide

theorem test_strtCnt_2 :
    holds (step { start with rom := [(0x0100, 0x45)], t := 0x33, tmode := .timer, ps := true })
      (fun s => s.tmode == .counter && s.t == 0x33 && s.pc == 0x0101) = true := by decide

theorem test_strtT :
    holds (step { start with rom := [(0x0100, 0x55)], t := 0x00, ps := false, pre := 31, tmode := .stopped })
      (fun s => s.tmode == .timer && s.pre == 1 && s.t == 0x00 && s.pc == 0x0101) = true := by decide

theorem test_strtT_2 :
    holds (step { start with rom := [(0x0100, 0x55)], t := 0xFC, ps := true, pre := 9, tmode := .stopped })
      (fun s => s.tmode == .timer && s.pre == 1 && s.t == 0xFD && s.pc == 0x0101) = true := by decide

theorem test_stopTcnt :
    holds (step { start with rom := [(0x0100, 0x65)], t := 0x44, ps := true, tmode := .timer, tf := true })
      (fun s => s.tmode == .stopped && s.t == 0x44 && s.tf && s.pc == 0x0101) = true := by decide

theorem test_enTcnti :
    holds (step { start with rom := [(0x0100, 0x25)], ti := false, tf := true, tif := false })
      (fun s => s.ti && !s.tif && s.pc == 0x0101) = true := by decide

theorem test_disTcnti :
    holds (step { start with rom := [(0x0100, 0x35)], ti := true, tif := false, tf := false, t := 0xFF,
                             tmode := .timer, ps := true })
      (fun s => !s.ti && !s.tif && s.tf && s.t == 0x00 && s.pc == 0x0101) = true := by decide

theorem test_enI :
    holds (step { start with rom := [(0x0100, 0x05)], ei := false, xlatch := false })
      (fun s => s.ei && !s.eif && s.pc == 0x0101) = true := by decide

theorem test_enI_2 :
    holds (step { start with rom := [(0x0100, 0x05)], ei := false, xlatch := true })
      (fun s => s.ei && s.eif && s.xlatch && s.pc == 0x0101) = true := by decide

theorem test_disI :
    holds (step { start with rom := [(0x0100, 0x15)], ei := true, eif := false, xlatch := true })
      (fun s => !s.ei && !s.eif && !s.xlatch && s.pc == 0x0101) = true := by decide

theorem test_selRb0 :
    holds (step { start with rom := [(0x0100, 0xC5)], rbs := true })
      (fun s => !s.rbs && s.pc == 0x0101) = true := by decide

theorem test_selRb1 :
    holds (step { start with rom := [(0x0100, 0xD5)], rbs := false })
      (fun s => s.rbs && s.pc == 0x0101) = true := by decide

theorem test_selMb0 :
    holds (step { start with rom := [(0x0100, 0xE5)], mbff1 := true, mbff0 := true })
      (fun s => s.pc == 0x0101 && !s.mbff1 && !s.mbff0) = true := by decide

theorem test_selMb1 :
    holds (step { start with rom := [(0x0100, 0xF5)], mbff1 := false, mbff0 := false })
      (fun s => s.pc == 0x0101 && !s.mbff1 && s.mbff0) = true := by decide

theorem test_selMb2 :
    holds (step { start with rom := [(0x0100, 0xA5)], mbff1 := false, mbff0 := false })
      (fun s => s.mbff1 && !s.mbff0 && s.pc == 0x0101) = true := by decide

theorem test_selMb3 :
    holds (step { start with rom := [(0x0100, 0xB5)], mbff1 := false, mbff0 := false })
      (fun s => s.mbff1 && s.mbff0 && s.pc == 0x0101) = true := by decide

theorem test_selMb3_2 :
    holds (step { start with rom := [(0x0100, 0xB5)], mbff1 := false, iip := true, mbff0 := false })
      (fun s => s.mbff1 && s.mbff0 && s.pc == 0x0101) = true := by decide

theorem test_stop :
    holds (step { start with rom := [(0x0100, 0x22)], pins := { State.reset.pins with t0 := true } })
      (fun s => s.mode == .stop && s.pc == 0x0101) = true := by decide

theorem test_stop_2 :
    holds (step { start with rom := [(0x0100, 0x22)], pins := { State.reset.pins with t0 := false } })
      (fun s => s.mode == .normal && s.pc == 0x0101) = true := by decide

theorem test_idle :
    holds (step { start with rom := [(0x0100, 0x01)] })
      (fun s => s.mode == .idle && s.pc == 0x0101) = true := by decide

theorem test_call :
    holds (step { start with pc := 0x0017, rom := [(0x0017, 0x34), (0x0018, 0x40)], sp := 0, cy := false,
                             ac := false, rbs := false })
      (fun s => s.pc == 0x0140 && s.sp == 1 && s.ram.read 8 == 0x00 && s.ram.read 9 == 0x19) = true := by decide

theorem test_call_2 :
    holds (step { start with pc := 0x0017, rom := [(0x0017, 0x34), (0x0018, 0x40)], sp := 0, cy := false,
                             ac := false, rbs := false, cfg := { Config.full with stackPswByteAtEven := false } })
      (fun s => s.pc == 0x0140 && s.sp == 1 && s.ram.read 8 == 0x19 && s.ram.read 9 == 0x00) = true := by decide

theorem test_ret :
    holds (step { start with pc := 0x0140, rom := [(0x0140, 0x83)], ram := [(8, 0xF0), (9, 0x19)], sp := 1,
                             cy := false, ac := false, rbs := false })
      (fun s => s.pc == 0x1019 && s.sp == 0 && !s.cy && !s.ac && !s.rbs) = true := by decide

theorem test_ret_2 :
    stops (step { start with pc := 0x0140, rom := [(0x0140, 0x83)], ram := [(8, 0x08)], sp := 1, iip := true }) = true :=
  by decide

theorem test_retr :
    holds (step { start with pc := 0x0040, rom := [(0x0040, 0x93)], ram := [(8, 0xD1), (9, 0x23)], sp := 1,
                             cy := false, ac := false, rbs := false, iip := true })
      (fun s => s.pc == 0x0123 && s.sp == 0 && s.cy && s.ac && s.rbs && !s.iip && s.retrShadow) = true := by decide

theorem test_retr_2 :
    holds (step { start with pc := 0x0040, rom := [(0x0040, 0x93)], ram := [(8, 0x23), (9, 0xD1)], sp := 1,
                             cy := false, ac := false, rbs := false, iip := true,
                             cfg := { Config.full with stackPswByteAtEven := false } })
      (fun s => s.pc == 0x0123 && s.sp == 0 && s.cy && s.ac && s.rbs && !s.iip) = true := by decide

theorem test_inAP0 :
    holds (step { start with rom := [(0x0100, 0x08)], pff0 := 0xF0 })
      (fun s => s.a == 0xF0 && s.pff0 == 0xF0 && s.pc == 0x0101) = true := by decide

theorem test_inAP0_2 :
    holds (step { start with rom := [(0x0100, 0x08)], pff0 := 0xFF, pins := { State.reset.pins with ext0 := 0xA5 } })
      (fun s => s.a == 0xA5 && s.pc == 0x0101) = true := by decide

theorem test_inAP1 :
    holds (step { start with rom := [(0x0100, 0x09)], pff1 := 0xFF, pins := { State.reset.pins with ext1 := 0xFE } })
      (fun s => s.a == 0xFE && s.pc == 0x0101) = true := by decide

theorem test_inAP1_2 :
    holds (step { start with rom := [(0x0100, 0x09)], pff1 := 0x0F, pins := { State.reset.pins with ext1 := 0x3C } })
      (fun s => s.a == 0x0C && s.pc == 0x0101) = true := by decide

theorem test_inAP2 :
    holds (step { start with rom := [(0x0100, 0x0A)], pff2 := 15, pins := { State.reset.pins with ext2 := 6 } })
      (fun s => s.a == 0x06 && s.pc == 0x0101) = true := by decide

theorem test_outlP0A :
    holds (step { start with rom := [(0x0100, 0x38)], a := 0x55, pff0 := 0xFF })
      (fun s => s.pff0 == 0x55 && s.a == 0x55 && s.pc == 0x0101) = true := by decide

theorem test_outlP1A :
    holds (step { start with rom := [(0x0100, 0x39)], a := 0x00, pff1 := 0xFF })
      (fun s => s.pff1 == 0x00 && s.pc == 0x0101) = true := by decide

theorem test_outlP2A :
    holds (step { start with rom := [(0x0100, 0x3A)], a := 0xF5, pff2 := 15 })
      (fun s => s.pff2 == 5 && s.pc == 0x0101) = true := by decide

theorem test_anlP0Imm :
    holds (step { start with rom := [(0x0100, 0x98), (0x0101, 0xFE)], pff0 := 0xFF,
                             pins := { State.reset.pins with ext0 := 0x7F } })
      (fun s => s.pff0 == 0xFE && s.pc == 0x0102) = true := by decide

theorem test_anlP1Imm :
    holds (step { start with rom := [(0x0100, 0x99), (0x0101, 0x0F)], pff1 := 0x3C })
      (fun s => s.pff1 == 0x0C && s.pc == 0x0102) = true := by decide

theorem test_anlP2Imm :
    holds (step { start with rom := [(0x0100, 0x9A), (0x0101, 0xF7)], pff2 := 15 })
      (fun s => s.pff2 == 7 && s.pc == 0x0102) = true := by decide

theorem test_orlP0Imm :
    holds (step { start with rom := [(0x0100, 0x88), (0x0101, 0x81)], pff0 := 0x00 })
      (fun s => s.pff0 == 0x81 && s.pc == 0x0102) = true := by decide

theorem test_orlP1Imm :
    holds (step { start with rom := [(0x0100, 0x89), (0x0101, 0xF0)], pff1 := 0x0C })
      (fun s => s.pff1 == 0xFC && s.pc == 0x0102) = true := by decide

theorem test_orlP2Imm :
    holds (step { start with rom := [(0x0100, 0x8A), (0x0101, 0xF8)], pff2 := 7 })
      (fun s => s.pff2 == 15 && s.pc == 0x0102) = true := by decide

theorem test_movADx :
    stops (step { start with rom := [(0x0100, 0x8C), (0x0101, 0x10)], cfg := { Config.full with hasDeriv := false } }) = true :=
  by decide

/-- R264: 10H is a line address whose lines read A5H. -/
theorem test_movADx_2 :
    holds (step { start with rom := [(0x0100, 0x8C), (0x0101, 0x10)],
                             deriv := { State.reset.deriv with regs := [(0x10, 0xA5), (0x11, 0xFF)] },
                             cfg := withDeriv [{ plainRegister 0x10 with kind := .portLine 0x11 0x00 },
                                               { plainRegister 0x11 with kind := .portFlipFlop }] })
      (fun s => s.a == 0xA5 && s.pc == 0x0102) = true := by decide

theorem test_movDxA :
    holds (step { start with rom := [(0x0100, 0x8D), (0x0101, 0x11)], a := 0x0F })
      (fun s => s.deriv.regs.read 0x11 == 0x0F && s.a == 0x0F && s.pc == 0x0102) = true := by decide

theorem test_anlDxA :
    holds (step { start with rom := [(0x0100, 0x8E), (0x0101, 0x10)], a := 0x0F,
                             deriv := { State.reset.deriv with regs := [(0x10, 0x3C)] } })
      (fun s => s.deriv.regs.read 0x10 == 0x0C && s.a == 0x0F && s.pc == 0x0102) = true := by decide

theorem test_orlDxA :
    holds (step { start with rom := [(0x0100, 0x8F), (0x0101, 0x10)], a := 0xC0,
                             deriv := { State.reset.deriv with regs := [(0x10, 0x3C)] } })
      (fun s => s.deriv.regs.read 0x10 == 0xFC && s.a == 0xC0 && s.pc == 0x0102) = true := by decide

theorem test_movAS0 :
    holds (step { start with rom := [(0x0100, 0x0C)],
                             i2c := { I2C.reset with s0 := 0xA1, pin := false, aas := true, eso := true } })
      (fun s => s.a == 0xA1 && s.i2c.pin && !s.i2c.aas && s.i2c.s0 == 0xA1 && s.pc == 0x0101) = true := by decide

theorem test_movAS0_2 :
    holds (step { start with rom := [(0x0100, 0x0C)],
                             i2c := { I2C.reset with s0 := 0x00, s0a := 0x5A, eso := false } })
      (fun s => s.a == 0x00 && s.pc == 0x0101) = true := by decide

theorem test_movAS1 :
    holds (step { start with rom := [(0x0100, 0x0D)] })
      (fun s => s.a == 0x10 && s.pc == 0x0101) = true := by decide

theorem test_movAS1_2 :
    holds (step { start with rom := [(0x0100, 0x0D)],
                             i2c := { I2C.reset with mst := true, trx := true, bb := true, pin := false,
                                                     eso := true, bc := 5, al := false, aas := false, ad0 := false, lrb := true } })
      (fun s => s.a == 0xE1 && !s.i2c.pin && s.pc == 0x0101) = true := by decide

theorem test_movS0A :
    holds (step { start with rom := [(0x0100, 0x3C)], a := 0x5A, i2c := { I2C.reset with eso := false, s0 := 0x33 } })
      (fun s => s.i2c.s0a == 0x5A && s.i2c.s0 == 0x33 && s.i2c.pin && s.pc == 0x0101) = true := by decide

theorem test_movS0A_2 :
    holds (step { start with rom := [(0x0100, 0x3C)], a := 0x5A,
                             i2c := { I2C.reset with eso := true, s0 := 0x33, pin := false, aas := true, al := true } })
      (fun s => s.i2c.s0a == 0x00 && s.i2c.s0 == 0x5A && s.i2c.pin && !s.i2c.aas && !s.i2c.al && s.pc == 0x0101) =
    true := by decide

theorem test_movS1A :
    holds (step { start with rom := [(0x0100, 0x3D)], a := 0x18 })
      (fun s => !s.i2c.mst && !s.i2c.trx && !s.i2c.bb && s.i2c.pin && s.i2c.eso && s.i2c.bc == 0 &&
        !s.i2c.al && s.i2c.s1Read == 0x10 && s.pc == 0x0101) = true := by decide

theorem test_movS2A :
    holds (step { start with rom := [(0x0100, 0x3E)], a := 0x47 })
      (fun s => s.i2c.s2 == 71 && s.pc == 0x0101) = true := by decide

theorem test_movS0Imm :
    holds (step { start with rom := [(0x0100, 0x9C), (0x0101, 0xA0)],
                             i2c := { I2C.reset with eso := true, pin := false } })
      (fun s => s.i2c.s0 == 0xA0 && s.i2c.pin && s.pc == 0x0102) = true := by decide

theorem test_movS0Imm_2 :
    holds (step { start with rom := [(0x0100, 0x9C), (0x0101, 0x5B)], i2c := { I2C.reset with eso := false } })
      (fun s => s.i2c.s0a == 0x5B && s.pc == 0x0102) = true := by decide

theorem test_movS1Imm :
    holds (step { start with rom := [(0x0100, 0x9D), (0x0101, 0x18)] })
      (fun s => !s.i2c.mst && !s.i2c.trx && !s.i2c.bb && s.i2c.pin && s.i2c.eso && s.i2c.bc == 0 &&
        !s.i2c.al && s.i2c.s1Read == 0x10 && s.pc == 0x0102) = true := by decide

theorem test_movS1Imm_2 :
    stops (step { start with rom := [(0x0100, 0x9D), (0x0101, 0x08)], i2c := { I2C.reset with eso := true } }) = true :=
  by decide

theorem test_movS2Imm :
    holds (step { start with rom := [(0x0100, 0x9E), (0x0101, 0x6A)] })
      (fun s => s.i2c.s2 == 106 && s.pc == 0x0102) = true := by decide

theorem test_enSi :
    holds (step { start with rom := [(0x0100, 0x85)], si := false, i2c := { I2C.reset with pin := false } })
      (fun s => s.si && s.pc == 0x0101) = true := by decide

theorem test_disSi :
    holds (step { start with rom := [(0x0100, 0x95)], si := true })
      (fun s => !s.si && s.i2c.pin && s.pc == 0x0101) = true := by decide

theorem test_nop :
    holds (step { start with rom := [], a := 0x12, cy := true })
      (fun s => s.a == 0x12 && s.cy && s.pc == 0x0101) = true := by decide

theorem test_nop_2 : holds (step { start with pc := 0x0FFF, rom := [] }) (fun s => s.pc == 0x0800) = true := by decide

/-! ### The step: interrupts, modes, reset and the interface of the host (spec/95_test_vectors.md section 3) -/

/-- 3.1: external interrupt entry. -/
theorem test_external_entry :
    holds (step { start with pc := 0x0123, ei := true, xlatch := true, eif := true, sp := 2, cy := true, ac := true,
                             rbs := true, mbff0 := true })
      (fun s => s.pc == 0x0003 && s.sp == 3 && s.iip && !s.eif && !s.xlatch && s.ram.read 12 == 0xD1
        && s.ram.read 13 == 0x23 && s.rbs && s.cy && s.ac && s.mbff0) = true := by decide

/-- 3.1 with the two stack bytes the other way. -/
theorem test_external_entry_odd :
    holds (step { start with pc := 0x0123, ei := true, xlatch := true, eif := true, sp := 2, cy := true, ac := true,
                             rbs := true, cfg := { Config.full with stackPswByteAtEven := false } })
      (fun s => s.ram.read 12 == 0x23 && s.ram.read 13 == 0xD1) = true := by decide

/-- 3.2: timer interrupt entry from bank 2. -/
theorem test_timer_entry :
    holds (step { start with pc := 0x1234, ti := true, tif := true, tf := true, ac := true, mbff1 := true })
      (fun s => s.pc == 0x0007 && s.sp == 1 && s.iip && !s.tif && s.tf && s.ram.read 8 == 0x62
        && s.ram.read 9 == 0x34) = true := by decide

/-- 3.4: no nesting. -/
theorem test_no_nesting :
    holds (step { start with pc := 0x0040, iip := true, ei := true, xlatch := true, eif := true, ti := true, tif := true })
      (fun s => s.pc == 0x0041 && s.eif && s.tif) = true := by decide

/-- 3.6: the wake-up from Stop mode with EI = 1. -/
theorem test_stop_wakeUp :
    holds (step { start with pc := 0x0101, mode := .stop, ei := true, pins := { start.pins with t0 := false } })
      (fun s => decide (s.mode = .normal) && s.retrShadow && s.eif && s.xlatch && s.pc == 0x0101) = true := by decide

/-- 3.7: with PS = 1 the cycle of STRT T is counted. -/
theorem test_timer_direct :
    holds (step { start with rom := [(0x0100, 0x55)], t := 0xFF, ps := true })
      (fun s => s.t == 0x00 && s.tf && !s.tif && s.pre == 1) = true := by decide

/-- 4.4: two events between two steps, in Idle mode. -/
theorem test_idle_events :
    holds (step { start with mode := .idle, ei := true, ti := true, tmode := .counter, t := 0xFF,
                             env := [[.t1Edge, .extEdge]] })
      (fun s => s.t == 0x00 && s.tf && s.tif && s.eif && s.xlatch && s.pc == 0x0100 && decide (s.mode = .idle)) =
    true := by decide

/-- 3.10: an addressed slave, and the byte that follows. -/
theorem test_slave_events :
    let s : State := { start with i2c := { I2C.reset with eso := true, s0a := 0x5A, s2 := 0x40 } }
    let t := applyEvents 2 s [.i2cStart, .i2cFirstByte 0x5A false]
    t.i2c.s1Read = 0x24 ∧ t.i2c.s0 = 0x5A
      ∧ (applyEvents 2 (t.setI2c t.i2c.cancelPin) [.i2cByteDone 0xC3 false]).i2c.s1Read = 0x20 := by decide

/-- R366: a slave selected by a general call, which frees the bus by MOV S1,#18H, sees a repeated start. -/
theorem test_repeated_start :
    let s : State := { start with i2c := { I2C.reset with eso := true, s0a := 0x5A } }
    let t := applyEvents 2 s [.i2cStart, .i2cFirstByte 0x00 false]
    (t.i2c.selected && t.i2c.ad0) = true
      ∧ holds (exec (.movS1Imm 0x18) t) (fun u => !u.i2c.bb && u.i2c.selected && u.i2c.ad0) = true
      ∧ holds (andThen (exec (.movS1Imm 0x18) t) fun u => .next (applyEvents 2 u [.i2cStart]))
          (fun u => u.i2c.bb && !u.i2c.selected && !u.i2c.ad0) = true := by decide

/-- R355: with PIN = 0 a stop condition and a lost arbitration leave the feedback bits; AD0 goes when PIN is cancelled. -/
theorem test_feedback_stable :
    let s : State := { start with i2c := { I2C.reset with
      eso := true, pin := false, mst := true, trx := true, bb := true, ad0 := true, lrb := true } }
    let t := applyEvents 2 s [.i2cArbitrationLost, .i2cStop]
    t.i2c.s1Read = 0xC3 ∧ t.i2c.cancelPin.s1Read = 0xD1 := by decide

/-- R358: PIN is cleared at the end of the byte in which the arbitration was lost, though MOV A,S0 cleared AL before. -/
theorem test_lost_byte :
    let s : State := { start with i2c := { I2C.reset with eso := true, mst := true, trx := true, bb := true } }
    let t := applyEvents 2 s [.i2cArbitrationLost]
    t.i2c.s1Read = 0x38
      ∧ holds (exec .movAS0 t) (fun u => u.i2c.s1Read == 0x30
          && (applyEvents 2 u [.i2cByteDone 0x77 true]).i2c.s1Read == 0x21
          && (applyEvents 2 u [.i2cFirstByte 0x77 true, .i2cByteDone 0x99 false]).i2c.s0 == 0x77) = true := by decide

/-- R366: S0 stays while a transmitter shifts it out, and is any byte after its eighth bit; BCNT then counts the acknowledge. -/
theorem test_shift_out :
    let s : State := { start with i2c := { I2C.reset with
      eso := true, mst := true, trx := true, bb := true, s0 := 0xA0, s2 := 0x40, bcnt := 9 } }
    let t := applyEvents 2 s (List.replicate 7 (.i2cBit 0x77 true))
    t.i2c.s0 = 0xA0 ∧ t.i2c.bcnt = 2 ∧ (applyEvents 2 t [.i2cBit 0x77 true]).i2c.s0 = 0x77 := by decide

/-- A derivative port: a LOW flip-flop reads LOW, a push-pull line reads HIGH, another line its level, a missing line 0; and a
register whose read raises the request of the logic and whose write removes it. -/
theorem test_derivative_port :
    let s : State := { start with cfg := derivPort,
                                  deriv := { State.reset.deriv with regs := [(0x10, 0xFA), (0x11, 0x07)] } }
    holds (exec (.movADx 0x10) s) (fun t => t.a == 0x03 && !t.deriv.request) = true
      ∧ holds (exec (.movADx 0x12) s) (fun t => t.a == 0xF0 && t.deriv.request && pinLineLow t) = true
      ∧ holds (exec (.orlDxA 0x12) (s.setA 0x35)) (fun t => t.deriv.regs.read 0x12 == 0x05 && !pinLineLow t) = true := by
  decide

/-- A reset leaves the flip-flops of a derivative port at their reset value and the levels on its lines alone. -/
theorem test_derivative_reset :
    derivAtReset derivPort { regs := [(0x10, 0x0A), (0x12, 0x05)], request := true, inner := 7 }
        = { regs := [(0x10, 0x0A), (0x11, 0x0F)], request := false, inner := 0 }
      ∧ derivAtReset Config.full { regs := [(0x10, 0x0A)], request := true, inner := 7 } = State.reset.deriv := by decide +kernel

/-- 3.11: a reset; nothing is tested of A, CY, AC and data memory. -/
theorem test_reset_event :
    holds (step { start with pc := 0x1ABC, mbff0 := true, mbff1 := true, rbs := true, sp := 5, ps := true, ei := true,
                             ti := true, iip := true, tmode := .timer, t := 0x77, pff0 := 0x00, mode := .idle,
                             pins := { start.pins with reset := true },
                             cfg := { Config.full with portReset0 := 0x0F } })
      (fun s => s.pc == 0x0000 && !s.mbff1 && !s.rbs && s.sp == 0 && !s.ps && !s.ei && !s.ti && !s.iip && s.t == 0x00
        && s.pff0 == 0x0F && s.pff2 == 0xF && decide (s.mode = .normal) && decide (s.tmode = .stopped)) = true := by
  decide

/-- A table word has its first byte in bits 7 to 0: MOV R5,#5AH. -/
theorem test_decodeTableWord : decodeTableWord 16 0x5ABD = some (.movRrImm 5 0x5A) := by decide

theorem test_withFetchWord :
    holds (step (State.reset.withFetchWord 16 0x5ABD)) (fun s => s.ram.read 5 == 0x5A && s.pc == 0x0002) = true := by
  decide

/-! ### Witnesses: the hypotheses of each statement are met, clause by clause, at a boundary of their range -/

theorem exists_of_holds {o : Result State} {p : State → Bool} (h : holds o p = true) : ∃ t, o = .next t ∧ p t = true := by
  cases o with
  | next t => exact ⟨t, rfl, h⟩
  | fault e => cases h
  | refused e => cases h

theorem test_witness_DecodeDeterminesBytes : decode [0xBD, 0x5A, 0x11] = .ok (.movRrImm 5 0x5A, [0x11]) := rfl

/-- The first and the last opcode of the list, at the first and the last address. -/
def unassignedFirst : State := { State.reset with rom := [(0, 0x02)] }

@[inherit_doc unassignedFirst]
def unassignedLast : State := { State.reset with pc := 0x1FFF, rom := [(0x1FFF, 0xF3)] }

theorem test_witness_UnassignedOpcodesRefused :
    (Executing unassignedFirst ∧ inRom unassignedFirst unassignedFirst.pc = true
      ∧ romByte unassignedFirst unassignedFirst.pc ∈ unassignedOpcodes)
    ∧ Executing unassignedLast ∧ inRom unassignedLast unassignedLast.pc = true
      ∧ romByte unassignedLast unassignedLast.pc ∈ unassignedOpcodes := by unfold Executing; decide

theorem test_witness_InstructionLengths : (Instr.movAImm 0).length = 2 ∧ Instr.nop.length = 1 ∧ Instr.ret.length = 1 := by
  decide

/-- A 2-byte instruction in the last two bytes of program memory. -/
def lastTwoBytes : State := { State.reset with pc := 0x1FFE, rom := [(0x1FFE, 0x23), (0x1FFF, 0x5A)] }

theorem test_witness_StepRunsDecodedInstruction :
    Executing lastTwoBytes ∧ inRom lastTwoBytes lastTwoBytes.pc = true
      ∧ ((Instr.movAImm 0x5A).length = 2 → inRom lastTwoBytes (inc11 lastTwoBytes.pc) = true)
      ∧ decode [romByte lastTwoBytes lastTwoBytes.pc, romByte lastTwoBytes (inc11 lastTwoBytes.pc)]
          = .ok (.movAImm 0x5A, []) :=
  ⟨by unfold Executing; decide, by decide, by decide, rfl⟩

/-- A device with 1 Kbyte of program memory and 64 bytes of data memory, both at their last byte. -/
def smallCfg : Config := { Config.full with romSize := 1024, ramSize := 64 }

def small : State := { State.reset with cfg := smallCfg, pc := 0x03FF, rom := [(0x03FF, 0x23)] }

theorem test_witness_ProgramMemoryEnd_fetch :
    Executing (small.setPc 0x0400) ∧ smallCfg.romSize ≤ (small.setPc 0x0400).pc.toNat := by unfold Executing; decide

theorem test_witness_ProgramMemoryEnd_secondByte :
    Executing small ∧ small.pc.toNat < small.cfg.romSize ∧ romByte small small.pc ∈ twoByteOpcodes
      ∧ small.cfg.romSize ≤ (inc11 small.pc).toNat := by unfold Executing; decide

theorem test_witness_ProgramMemoryEnd_table :
    TargetPageKnown (small.setPc 0x0401)
      ∧ small.cfg.romSize ≤ ((small.setPc 0x0401).pc.extractLsb' 8 5 ++ small.a).toNat := by
  unfold TargetPageKnown; decide

/-- Both pointers of bank 0 at the last byte of data memory. -/
def atLast : State := { small with ram := [(0, 0x3F), (1, 0x3F), (63, 0xA5)] }

/-- Both pointers one beyond it. -/
def beyondLast : State := { small with ram := [(0, 0x40), (1, 0x40)] }

theorem test_witness_DataMemoryEnd :
    beyondLast.cfg.ramSize ≤ (pointer beyondLast 0).toNat ∧ beyondLast.cfg.ramSize ≤ (pointer beyondLast 1).toNat := by
  decide

theorem test_witness_WorkingRegisterBanks : atLast.ram.wf = true := by decide

theorem test_witness_AddAndAddcForms : ∀ p : PtrNum, (pointer atLast p).toNat < atLast.cfg.ramSize := by decide

theorem test_witness_LogicForms : ∀ p : PtrNum, (pointer atLast p).toNat < atLast.cfg.ramSize := by decide

theorem test_witness_DecimalAddition : start.cfg.daRule = .mcs48 ∧ IsBcd 0x00 ∧ IsBcd 0x99 := by unfold IsBcd; decide

theorem test_witness_MovesToAccumulator : ∀ p : PtrNum, (pointer atLast p).toNat < atLast.cfg.ramSize := by decide

theorem test_witness_MovesToDataMemory :
    atLast.ram.wf = true ∧ ∀ p : PtrNum, (pointer atLast p).toNat < atLast.cfg.ramSize := by decide

theorem test_witness_Exchanges :
    atLast.ram.wf = true ∧ ∀ p : PtrNum, (pointer atLast p).toNat < atLast.cfg.ramSize := by decide

theorem test_witness_CarryAndRegisterInstructions :
    atLast.ram.wf = true ∧ ∀ p : PtrNum, (pointer atLast p).toNat < atLast.cfg.ramSize := by decide

/-- PC[7:0] = 01H, the first value whose page is known, and the last table byte of the small device. -/
theorem test_witness_TableReads_known :
    TargetPageKnown { small with pc := 0x0301, a := 0xFF }
      ∧ (((0x0301 : CodeAddr).extractLsb' 8 5) ++ (0xFF : Byte)).toNat < small.cfg.romSize := by
  unfold TargetPageKnown; decide

/-- PC[7:0] = 00H: the page is known under next_page alone. -/
theorem test_witness_TableReads_pageEnd :
    ¬TargetPageKnown (start.setPc 0x0200)
      ∧ TargetPageKnown { start with pc := 0x0200, cfg := { Config.full with pageEndRule := .nextPage } } := by
  unfold TargetPageKnown; decide

theorem test_witness_JumpAndCall : ({ start with sp := 7, ram := [(22, 0xFF), (23, 0x01)] } : State).ram.wf = true := by decide

/-- A level that returns to `ret`, popped while IIP is `iip`. -/
def returning (ret : CodeAddr) (iip : Bool) : State :=
  { start with sp := 1, iip := iip, ram := Memory.write (Memory.write [] 8 (stackHi true true true ret)) 9 (stackLo ret) }

theorem test_witness_Returns :
    holds (exec .ret (returning 0x07FF true)) (fun t => t.pc == 0x07FF) = true
      ∧ stops (exec .ret (returning 0x0800 true)) = true
      ∧ holds (exec .ret (returning 0x1FFF false)) (fun t => t.pc == 0x1FFF) = true := by decide

theorem test_witness_DecrementAndBranch :
    atLast.ram.wf = true ∧ (∀ p : PtrNum, (pointer atLast p).toNat < atLast.cfg.ramSize)
      ∧ ({ atLast with ram := [(0, 0x3F), (63, 0x01)] } : State).ram.read 63 - 1 = 0x00
      ∧ atLast.ram.read 63 - 1 ≠ 0x00 := by decide

/-- Each side of every condition, with the page known and at a page end. -/
theorem test_witness_ConditionalBranches :
    TargetPageKnown (start.setPc 0x0101) ∧ ¬TargetPageKnown start
      ∧ ({ start with a := 0x80 } : State).a.getLsbD 7 = true ∧ ({ start with a := 0x7F } : State).a.getLsbD 7 = false
      ∧ start.cy = false ∧ (start.setCy true).cy = true ∧ start.a = 0x00 ∧ (start.setA 0x01).a ≠ 0x00
      ∧ start.pins.t0 = true ∧ start.pins.t1 = false := by unfold TargetPageKnown; decide

theorem test_witness_TimerFlagBranches :
    TargetPageKnown (start.setPc 0x0101) ∧ ¬TargetPageKnown start ∧ start.tf = false
      ∧ ({ start with tf := true } : State).tf = true := by
  unfold TargetPageKnown; decide

theorem test_witness_BankChangesOnlyByLongTransfers :
    (∃ t, exec (.jmp 0 0x00) { start with mbff0 := true } = .next t
      ∧ decide (t.pc.extractLsb' 11 2 ≠ start.pc.extractLsb' 11 2) = true)
    ∧ ∃ t, exec .retr (returning 0x0800 true) = .next t
      ∧ decide (t.pc.extractLsb' 11 2 ≠ start.pc.extractLsb' 11 2) = true :=
  ⟨exists_of_holds (by decide), exists_of_holds (by decide)⟩

theorem test_witness_PowerModeInstructionsAndNop :
    start.pins.t0 = true ∧ ({ start with pins := { start.pins with t0 := false } } : State).pins.t0 = false
      ∧ ({ start with mode := .idle } : State).mode = .idle ∧ start.pins.reset = false
      ∧ acceptedSource { start with mode := .idle } = none := by decide

theorem test_witness_PortInput :
    start.cfg.hasP1 = true ∧ start.cfg.hasP2 = true ∧ ¬(start.cfg.hasI2C = true ∧ start.i2c.eso = true)
      ∧ bare.hasP1 = false ∧ bare.hasP2 = false := by decide

theorem test_witness_PortOutput :
    start.cfg.hasP1 = true ∧ start.cfg.hasP2 = true ∧ bare.hasP1 = false ∧ bare.hasP2 = false := by decide

theorem test_witness_DerivativeInstructions :
    start.deriv.regs.wf = true ∧ twoDeriv.derivReadable 0x10 = true ∧ twoDeriv.derivWritable 0x11 = true
      ∧ Config.full.derivReadable 0xFF = true ∧ Config.full.derivWritable 0xFF = true
      ∧ twoDeriv.derivReadable 0x11 = false ∧ twoDeriv.derivWritable 0x10 = false
      ∧ bare.derivReadable 0x00 = false ∧ bare.derivWritable 0x00 = false
      ∧ bare.hasDeriv = false ∧ start.cfg.hasDeriv = true ∧ start.mode ≠ .stop
      ∧ ({ start with mode := .stop } : State).mode = .stop := by decide

/-- The clauses for a map: a line, a flip-flop, a register. -/
theorem test_witness_DerivativeInstructions_map :
    derivPort.hasDeriv = true ∧ ∃ map, derivPort.derivLogic = .registers map
      ∧ (∃ g, derivRange map 0x10 = some g ∧ g.access ≠ .writeOnly)
      ∧ (∃ g, derivRange map 0x11 = some g ∧ g.access = .readWrite ∧ ¬∃ f p, g.kind = .portLine f p)
      ∧ ∃ g, derivRange map 0x12 = some g ∧ g.access = .readWrite ∧ ¬∃ f p, g.kind = .portLine f p :=
  ⟨rfl, _, rfl, ⟨_, rfl, by decide⟩, ⟨_, rfl, rfl, fun ⟨_, _, h⟩ => nomatch h⟩, ⟨_, rfl, rfl, fun ⟨_, _, h⟩ => nomatch h⟩⟩

theorem test_witness_SerialMoves :
    start.cfg.hasI2C = true ∧ start.i2c.eso = false ∧ ({ I2C.reset with eso := true } : I2C).eso = true
      ∧ bare.hasI2C = false := by decide

/-- The seven cases in their order: inhibited, gate closed, PIN = 0, start, lost arbitration, stop, none of these. -/
theorem test_witness_SerialControlWrite :
    ({ I2C.reset with bb := true } : I2C).s1Inhibited = true
      ∧ I2C.reset.s1Inhibited = false ∧ (0xF7 : Byte).getLsbD 3 = false
      ∧ (0xEF : Byte).getLsbD 3 = true ∧ (0xEF : Byte).getLsbD 4 = false
      ∧ I2C.reset.startsBy 0xF8 = true
      ∧ ({ I2C.reset with bb := true, selected := true } : I2C).losesBy 0xF8 = true
      ∧ ({ I2C.reset with bb := true, mst := true } : I2C).stopsBy 0xD8 = true
      ∧ I2C.reset.startsBy 0x18 = false ∧ I2C.reset.losesBy 0x18 = false ∧ I2C.reset.stopsBy 0x18 = false := by decide

theorem test_witness_DataMemoryFrame :
    (∃ t, exec (.call 0 0x00) { start with sp := 7, ram := [(24, 0x5A)] } = .next t ∧ (t.ram.read 24 == 0x5A) = true)
      ∧ 24 ∉ storeAddrs (.call 0 0x00) { start with sp := 7, ram := [(24, 0x5A)] }
      ∧ 23 ∈ storeAddrs (.call 0 0x00) { start with sp := 7, ram := [(24, 0x5A)] } :=
  ⟨exists_of_holds (by decide), by decide, by decide⟩

/-- Each flag of the statement is changed by an instruction it names. -/
theorem test_witness_FlagWriters :
    holds (exec (.addAImm 0x01) (start.setA 0xFF)) (fun t => t.cy && t.ac) = true
      ∧ holds (exec .selRb1 start) (fun t => t.rbs) = true
      ∧ holds (exec .movPswA (start.setA 0x08)) (fun t => t.ps) = true
      ∧ holds (exec .ret start) (fun t => t.sp == 7) = true
      ∧ holds (exec (.jntf 0x00) { start with tf := true }) (fun t => !t.tf) = true
      ∧ holds (exec .selMb3 start) (fun t => t.mbff0 && t.mbff1) = true
      ∧ holds (exec .enI { start with xlatch := true }) (fun t => t.ei && t.eif) = true
      ∧ holds (exec .disTcnti { start with ti := true, tif := true }) (fun t => !t.ti && !t.tif) = true
      ∧ holds (exec .enSi start) (fun t => t.si) = true
      ∧ holds (exec .retr { start with iip := true }) (fun t => !t.iip) = true := by decide

theorem test_witness_ResetEvent :
    ({ start with mode := .stop, pins := { start.pins with reset := true } } : State).pins.reset = true
      ∧ start.cfg.hasDeriv = true ∧ bare.hasDeriv = false
      ∧ ∃ map, derivPort.derivLogic = .registers map ∧ ∃ g, derivRange map 0x11 = some g ∧ g.kind = .portFlipFlop :=
  ⟨by decide, by decide, by decide, _, rfl, _, rfl, rfl⟩

/-- Requests of every source, so that the priority decides; `e` and `d` mask the first two. -/
def requesting (e d : Bool) : State :=
  { start with ei := e, eif := e, xlatch := e, si := d, ti := true, tif := true, i2c := { I2C.reset with pin := false } }

theorem test_witness_InterruptPriority :
    acceptedSource (requesting true true) = some .external ∧ acceptedSource (requesting false true) = some .serial
      ∧ acceptedSource (requesting false false) = some .timer
      ∧ acceptedSource { requesting true true with iip := true } = none
      ∧ acceptedSource { requesting true true with retrShadow := true } = none := by decide

theorem test_witness_InterruptEntry :
    (requesting true true).ram.wf = true ∧ (requesting true true).pins.reset = false ∧ (requesting true true).mode ≠ .stop
      ∧ acceptedSource (requesting true true) = some .external ∧ acceptedSource (requesting false true) = some .serial
      ∧ acceptedSource { requesting false false with mode := .idle } = some .timer := by decide

/-- In progress, with a stored external and a stored timer request, about to execute the byte `op`. -/
def inProgress (op : Byte) : State := { requesting true true with iip := true, rom := [(0x0100, op)] }

theorem test_witness_SingleLevel :
    (inProgress 0x93).iip = true ∧ (inProgress 0x93).pins.reset = false
      ∧ (∃ t, step (inProgress 0x93) = .next t ∧ (!t.iip && t.eif && t.tif) = true)
      ∧ (∃ t, step (inProgress 0x15) = .next t ∧ (t.iip && !t.eif && t.tif) = true)
      ∧ ∃ t, step (inProgress 0x35) = .next t ∧ (t.iip && t.eif && !t.tif) = true :=
  ⟨by decide, by decide, exists_of_holds (by decide), exists_of_holds (by decide), exists_of_holds (by decide)⟩

theorem test_witness_InterruptHoldOff :
    (({ requesting true true with retrShadow := true } : State).retrShadow = true ∧ start.pins.reset = false
      ∧ start.mode = .normal)
    ∧ Executing (inProgress 0x93) ∧ (∃ t, step (inProgress 0x93) = .next t ∧ t.retrShadow = true)
    ∧ ∃ t, step { inProgress 0x00 with retrShadow := true } = .next t ∧ (!t.retrShadow) = true :=
  ⟨by decide, by unfold Executing; decide, exists_of_holds (p := fun t => t.retrShadow) (by decide),
    exists_of_holds (by decide)⟩

theorem test_witness_ReturnUndoesCall :
    ({ start with sp := 7, iip := true, pc := 0x07FF } : State).ram.wf = true
      ∧ BankFrozen { start with sp := 7, iip := true, pc := 0x07FF }
      ∧ ∃ t, exec (.call 7 0xFF) { start with sp := 7, iip := true, pc := 0x07FF } = .next t
          ∧ (t.pc == 0x07FF && t.sp == 0) = true :=
  ⟨by decide, by unfold BankFrozen; decide, exists_of_holds (by decide)⟩

theorem test_witness_InterruptReturnRestores :
    let s : State := { requesting true true with sp := 7, pc := 0x1FFF, cy := true }
    let h : State := { takeInterrupt s .external with a := 0x77, cy := false, rbs := true }
    s.ram.wf = true ∧ h.cfg = s.cfg ∧ h.sp = (takeInterrupt s .external).sp
      ∧ h.ram.read (hiAddr s.cfg s.sp) = (takeInterrupt s .external).ram.read (hiAddr s.cfg s.sp)
      ∧ h.ram.read (loAddr s.cfg s.sp) = (takeInterrupt s .external).ram.read (loAddr s.cfg s.sp) :=
  ⟨by decide, rfl, rfl, rfl, rfl⟩

/-- Both ways into it: an interrupt in progress with a request pending, and nothing enabled. -/
theorem test_witness_IdleStuckUntilReset :
    idleUntilReset { inProgress 0x00 with mode := .idle, env := [[.extEdge, .t1Edge]] } = true
      ∧ idleUntilReset { start with mode := .idle, env := [[.extEdge], [.resetLevel false]] } = true := by decide

theorem test_witness_StopModeStandsStill :
    ({ start with mode := .stop } : State).mode = .stop ∧ start.pins.reset = false ∧ start.pins.t0 = true := by decide

theorem test_witness_StopModeWakeUp :
    let s : State := { start with mode := .stop, pins := { start.pins with t0 := false } }
    s.mode = .stop ∧ s.pins.reset = false ∧ s.pins.t0 = false := by decide

theorem test_witness_BankFrozenKept :
    BankFrozen { inProgress 0x00 with pc := 0x07FF }
      ∧ ∃ t, step { inProgress 0x00 with pc := 0x07FF } = .next t ∧ (t.iip && t.pc == 0x0000) = true :=
  ⟨by unfold BankFrozen; decide, exists_of_holds (by decide)⟩

theorem test_witness_RequestsCoherentKept :
    RequestsCoherent (inProgress 0x15)
      ∧ RequestsCoherent { inProgress 0x15 with cfg := { Config.full with extLatchWhenDisabled := false } }
      ∧ ∃ t, step (inProgress 0x15) = .next t ∧ (!t.ei && !t.xlatch) = true :=
  ⟨by unfold RequestsCoherent; decide, by unfold RequestsCoherent; decide, exists_of_holds (by decide)⟩

theorem test_witness_MemoryCanonicalKept :
    ({ atLast with pc := 0x0100, rom := [(0x0100, 0xA0)] } : State).cfg.wf = true
      ∧ MemoryCanonical { atLast with pc := 0x0100, rom := [(0x0100, 0xA0)] }
      ∧ ∃ t, step { atLast with pc := 0x0100, rom := [(0x0100, 0xA0)] } = .next t ∧ (t.ram.read 63 == 0x00) = true :=
  ⟨by decide, by unfold MemoryCanonical; decide, exists_of_holds (by decide)⟩

theorem test_witness_ProgramMemoryConstant :
    ∃ t, Runs 3 { start with rom := [(0x0100, 0xB8), (0x0101, 0x05), (0x0102, 0xA8)] } t :=
  ⟨_, rfl⟩

theorem test_witness_TimerCounts :
    ({ start with tmode := .timer, t := 0xFF, pre := 31 } : State).mode ≠ .stop
      ∧ ({ start with tmode := .timer, t := 0xFF, pre := 31 } : State).tmode = .timer
      ∧ ({ start with mode := .stop } : State).mode = .stop ∧ start.tmode ≠ .timer := by decide

theorem test_witness_EventCounts :
    ({ start with tmode := .counter, t := 0xFF } : State).mode ≠ .stop
      ∧ ({ start with tmode := .counter, t := 0xFF } : State).tmode = .counter
      ∧ start.tmode ≠ .counter ∧ ({ start with mode := .stop } : State).mode = .stop := by decide

theorem test_witness_ExternalEdge :
    let low : State := { start with t0High := false, pins := { start.pins with t0 := false } }
    start.mode ≠ .stop ∧ start.t0High = true ∧ ({ start with mode := .stop } : State).mode = .stop
      ∧ low.t0High = false ∧ low.pins.t0 = false := by decide

/-- A master/transmitter in the middle of a byte. -/
def sending : State :=
  { start with i2c := { I2C.reset with eso := true, mst := true, trx := true, bb := true, bcnt := 1 } }

theorem test_witness_SerialEventsHeld :
    ({ I2C.reset with pin := false } : I2C).pin = false ∧ bare.hasI2C = false ∧ start.i2c.eso = false
      ∧ ({ start with mode := .stop } : State).mode = .stop
      ∧ sending.cfg.hasI2C = true ∧ sending.i2c.eso = true ∧ sending.mode ≠ .stop ∧ sending.i2c.pin = true
      ∧ sending.i2c.mst = true ∧ sending.i2c.trx = true ∧ sending.i2c.bb = true
      ∧ start.i2c.mst = false ∧ start.i2c.s0a.getLsbD 0 = false ∧ start.i2c.selected = false ∧ start.i2c.lostByte = false
      ∧ start.i2c.bb = false := by decide

/-- A slave with address 7FH; its own address, the general call, and the neighbour of its address; and one with ALS = 1. -/
theorem test_witness_AddressRecognition :
    let slave : State := { start with i2c := { I2C.reset with eso := true, s0a := 0xFE } }
    let listener : State := { start with i2c := { I2C.reset with eso := true, s0a := 0x01 } }
    slave.cfg.hasI2C = true ∧ slave.i2c.eso = true ∧ slave.mode ≠ .stop ∧ slave.i2c.pin = true
      ∧ slave.i2c.mst = false ∧ slave.i2c.lostByte = false
      ∧ ({ slave.i2c with lostByte := true } : I2C).lostByte = true ∧ slave.i2c.s0a.getLsbD 0 = false
      ∧ (0xFF : Byte).toNat / 2 = slave.i2c.s0a.toNat / 2
      ∧ (0xFD : Byte).toNat / 2 ≠ slave.i2c.s0a.toNat / 2 ∧ (0xFD : Byte) ≠ 0x00
      ∧ listener.i2c.s0a.getLsbD 0 = true ∧ listener.i2c.eso = true ∧ listener.i2c.pin = true := by decide

end Sys2Proof.Tests
end

/-! The lengths and machine cycles of R106: the opcode table against the listed opcodes, and the encoder against
the table. -/

namespace Sys2Proof.Machine

/-- The opcode of an instruction, its first byte. -/
def opcodeOf (i : Instr) : Byte := (encode i).headD 0x00

/-! ### The opcode table -/

/-- The length of the opcode in row `h` and column `l` of the opcode map, its two hexadecimal digits. -/
theorem opcodeLength_digits (h l : BitVec 4) :
    opcodeLength (h ++ l) =
      if h ++ l ∈ twoByteOpcodes then some 2 else if h ++ l ∈ unassignedOpcodes then none else some 1 := by
  revert h l
  decide

/-- Every opcode has the length that R106's list of 2-byte opcodes and R107's list of unassigned ones give it. -/
theorem opcodeLength_eq (op : Byte) :
    opcodeLength op =
      if op ∈ twoByteOpcodes then some 2 else if op ∈ unassignedOpcodes then none else some 1 := by
  have digits : op.extractLsb' 4 4 ++ op.extractLsb' 0 4 = op := BitVec.extractLsb'_append_extractLsb' ..
  simpa only [digits] using opcodeLength_digits (op.extractLsb' 4 4) (op.extractLsb' 0 4)

theorem opcodeLength_eq_one_iff (op : Byte) :
    opcodeLength op = some 1 ↔ op ∉ twoByteOpcodes ++ unassignedOpcodes := by
  rw [opcodeLength_eq, List.mem_append]
  split_ifs <;> simp_all

/-- Of the 256 opcodes, as many are in a list without repetitions as the list is long. -/
theorem length_filter_mem_opcodes {ops : List Byte} (h : ops.Nodup) :
    ((List.range 256).filter fun n => decide (BitVec.ofNat 8 n ∈ ops)).length = ops.length := by
  have values : ((List.range 256).filter fun n => decide (BitVec.ofNat 8 n ∈ ops)).Perm (ops.map BitVec.toNat) := by
    rw [List.perm_ext_iff_of_nodup (List.nodup_range.filter _) (h.map fun _ _ => BitVec.eq_of_toNat_eq)]
    intro n
    simp only [List.mem_filter, List.mem_range, decide_eq_true_eq, List.mem_map]
    constructor
    · rintro ⟨hn, hmem⟩
      exact ⟨_, hmem, Nat.mod_eq_of_lt hn⟩
    · rintro ⟨op, hmem, rfl⟩
      exact ⟨op.isLt, by simpa using hmem⟩
  simpa using values.length_eq

theorem length_filter_not_mem_opcodes {ops : List Byte} (h : ops.Nodup) :
    ((List.range 256).filter fun n => !decide (BitVec.ofNat 8 n ∈ ops)).length = 256 - ops.length := by
  have total := List.length_eq_length_filter_add (l := List.range 256) fun n => decide (BitVec.ofNat 8 n ∈ ops)
  rw [length_filter_mem_opcodes h, List.length_range] at total
  omega

theorem nodup_twoByteOpcodes_append_unassignedOpcodes : (twoByteOpcodes ++ unassignedOpcodes).Nodup := by
  decide

/-- R106's 151: the 256 opcodes less the 73 and the 32 of the two lists. -/
theorem length_filter_opcodeLength_eq_one :
    ((List.range 256).filter fun n => decide (opcodeLength (BitVec.ofNat 8 n) = some 1)).length = 151 := by
  have unlisted (n : Nat) : decide (opcodeLength (BitVec.ofNat 8 n) = some 1)
      = !decide (BitVec.ofNat 8 n ∈ twoByteOpcodes ++ unassignedOpcodes) := by
    simp only [opcodeLength_eq_one_iff, decide_not]
  simp only [unlisted]
  exact length_filter_not_mem_opcodes nodup_twoByteOpcodes_append_unassignedOpcodes

/-! ### The instructions -/

/-- The encoder writes as many bytes as the opcode it writes announces: one check of the table for a fixed opcode, one for
every value of the field in the others; a second byte does not matter. -/
theorem opcodeLength_opcodeOf (i : Instr) : opcodeLength (opcodeOf i) = some i.length := by
  cases i with
  | addARr r | addcARr r | anlARr r | orlARr r | xrlARr r | movARr r | movRrA r | xchARr r | incRr r | decRr r =>
    revert r; decide
  | addAInd p | addcAInd p | anlAInd p | orlAInd p | xrlAInd p | movAInd p | movIndA p | xchAInd p | xchdAInd p
  | incInd p | decInd p =>
    revert p; decide
  | movRrImm r _ | djnzRr r _ =>
    change opcodeLength (regOp _ r) = some 2
    revert r; decide
  | movIndImm p _ | djnzInd p _ =>
    change opcodeLength (ptrOp _ p) = some 2
    revert p; decide
  | jmp f _ | call f _ | jb f _ =>
    change opcodeLength (topOp _ f) = some 2
    revert f; decide
  | _ => simp only [opcodeOf, Instr.length, encode, List.headD_cons]; rfl

/-- An instruction takes 2 machine cycles when it has 2 bytes or its opcode is among the 15 that R106 lists; else 1. -/
theorem cycles_eq (i : Instr) :
    i.cycles = if i.length = 2 ∨ opcodeOf i ∈ twoCycleOneByteOpcodes then 2 else 1 := by
  cases i with
  | addARr r | addcARr r | anlARr r | orlARr r | xrlARr r | movARr r | movRrA r | xchARr r | incRr r | decRr r =>
    revert r; decide
  | addAInd p | addcAInd p | anlAInd p | orlAInd p | xrlAInd p | movAInd p | movIndA p | xchAInd p | xchdAInd p
  | incInd p | decInd p =>
    revert p; decide
  | _ => rfl

theorem cycles_of_length_two {i : Instr} (h : i.length = 2) : i.cycles = 2 := by
  rw [cycles_eq, if_pos (.inl h)]

theorem cycles_of_length_one {i : Instr} (h : i.length = 1) :
    i.cycles = if opcodeOf i ∈ twoCycleOneByteOpcodes then 2 else 1 := by
  simp [cycles_eq, h]

/-- Settles O4: the table's lengths digit by digit, the 151 counted from the two lists, the encoder's lengths and the
machine cycles by the form of the instruction. -/
theorem instructionLengths : Obligations.InstructionLengths :=
  ⟨opcodeLength_eq, rfl, nodup_twoByteOpcodes_append_unassignedOpcodes.of_append_left,
    length_filter_opcodeLength_eq_one, opcodeLength_opcodeOf, fun _ => cycles_of_length_two,
    fun _ => cycles_of_length_one⟩

end Sys2Proof.Machine

/-! The accumulator instructions of spec/40_accumulator.md: the logic instructions, those that write A alone, and the
rotates, each as one equation of `exec`. -/

namespace Sys2Proof.Machine

/-! ### Encodings -/

/-- The length need not be checked beside the encoding. -/
theorem Codes.of_encode {i : Instr} {bytes : List Byte} {n : Nat} (he : encode i = bytes)
    (hd : decode bytes = .ok (i, [])) (hc : i.cycles = n) : Codes i bytes n :=
  ⟨he, hd, congrArg List.length he, hc⟩

theorem codes_anlARr (r : RegNum) : Codes (.anlARr r) [0b01011#5 ++ r] 1 :=
  .of_encode (by revert r; decide) (by revert r; decide) rfl

theorem codes_orlARr (r : RegNum) : Codes (.orlARr r) [0b01001#5 ++ r] 1 :=
  .of_encode (by revert r; decide) (by revert r; decide) rfl

theorem codes_xrlARr (r : RegNum) : Codes (.xrlARr r) [0b11011#5 ++ r] 1 :=
  .of_encode (by revert r; decide) (by revert r; decide) rfl

theorem codes_anlAInd (p : PtrNum) : Codes (.anlAInd p) [0b0101000#7 ++ p] 1 :=
  .of_encode (by revert p; decide) (by revert p; decide) rfl

theorem codes_orlAInd (p : PtrNum) : Codes (.orlAInd p) [0b0100000#7 ++ p] 1 :=
  .of_encode (by revert p; decide) (by revert p; decide) rfl

theorem codes_xrlAInd (p : PtrNum) : Codes (.xrlAInd p) [0b1101000#7 ++ p] 1 :=
  .of_encode (by revert p; decide) (by revert p; decide) rfl

/-! ### Logic -/

/-- An instruction goes on with the byte that `@Rr` addresses, where the pointer is within data memory. -/
theorem andThen_readInd {α : Type} {s : State} {p : PtrNum} (h : (pointer s p).toNat < s.cfg.ramSize)
    (f : Byte → Result α) : andThen (readInd s p) f = f (s.ram.read (pointer s p).toNat) := by
  rw [readInd_next.mpr ⟨h, rfl⟩, andThen_of_next]

theorem exec_anlAInd {s : State} {p : PtrNum} (h : (pointer s p).toNat < s.cfg.ramSize) :
    exec (.anlAInd p) s = .next { s with a := s.a &&& s.ram.read (pointer s p).toNat } :=
  andThen_readInd h _

theorem exec_orlAInd {s : State} {p : PtrNum} (h : (pointer s p).toNat < s.cfg.ramSize) :
    exec (.orlAInd p) s = .next { s with a := s.a ||| s.ram.read (pointer s p).toNat } :=
  andThen_readInd h _

theorem exec_xrlAInd {s : State} {p : PtrNum} (h : (pointer s p).toNat < s.cfg.ramSize) :
    exec (.xrlAInd p) s = .next { s with a := s.a ^^^ s.ram.read (pointer s p).toNat } :=
  andThen_readInd h _

/-- Settles O11: the encodings by the value of the opcode's field; the forms with a register or an immediate byte compute as
stated, and those with a pointer once its byte is read. -/
theorem logicForms : Obligations.LogicForms :=
  ⟨fun r => ⟨codes_anlARr r, codes_orlARr r, codes_xrlARr r⟩,
    fun p => ⟨codes_anlAInd p, codes_orlAInd p, codes_xrlAInd p⟩,
    fun _ => ⟨.of_encode rfl rfl rfl, .of_encode rfl rfl rfl, .of_encode rfl rfl rfl⟩,
    fun _ => ⟨fun _ => ⟨rfl, rfl, rfl⟩, fun _ h => ⟨exec_anlAInd h, exec_orlAInd h, exec_xrlAInd h⟩,
      fun _ => ⟨rfl, rfl, rfl⟩⟩⟩

/-! ### Increment, decrement, clear, complement and swap -/

theorem byte_add_one_eq (a : Byte) : a + 1 = BitVec.ofNat 8 ((a.toNat + 1) % 256) :=
  BitVec.eq_of_toNat_eq (by simp [BitVec.toNat_add])

theorem byte_sub_one_eq (a : Byte) : a - 1 = BitVec.ofNat 8 ((a.toNat + 255) % 256) :=
  BitVec.eq_of_toNat_eq (by simp [BitVec.toNat_sub, Nat.add_comm])

/-- SWAP in numbers: the low digit moves up by a factor of 16, the high digit down. -/
theorem swapNibbles_eq (a : Byte) : swapNibbles a = BitVec.ofNat 8 (a.toNat % 16 * 16 + a.toNat / 16) := by
  have low_toNat : (a.extractLsb' 0 4).toNat = a.toNat % 16 := by simp
  have high_toNat : (a.extractLsb' 4 4).toNat = a.toNat / 16 := by
    rw [BitVec.extractLsb'_toNat, Nat.shiftRight_eq_div_pow, Nat.mod_eq_of_lt (by omega)]
  have append_toNat : (swapNibbles a).toNat = (a.extractLsb' 0 4).toNat * 16 + (a.extractLsb' 4 4).toNat := by
    rw [swapNibbles, BitVec.toNat_append, ← Nat.shiftLeft_add_eq_or_of_lt (a.extractLsb' 4 4).isLt, Nat.shiftLeft_eq]
  have swapped_lt : a.toNat % 16 * 16 + a.toNat / 16 < 2 ^ 8 := by omega
  apply BitVec.eq_of_toNat_eq
  rw [append_toNat, low_toNat, high_toNat, BitVec.toNat_ofNat, Nat.mod_eq_of_lt swapped_lt]

theorem exec_incA (s : State) : exec .incA s = .next { s with a := BitVec.ofNat 8 ((s.a.toNat + 1) % 256) } := by
  rw [← byte_add_one_eq]; rfl

theorem exec_decA (s : State) : exec .decA s = .next { s with a := BitVec.ofNat 8 ((s.a.toNat + 255) % 256) } := by
  rw [← byte_sub_one_eq]; rfl

theorem exec_swapA (s : State) :
    exec .swapA s = .next { s with a := BitVec.ofNat 8 (s.a.toNat % 16 * 16 + s.a.toNat / 16) } := by
  rw [← swapNibbles_eq]; rfl

/-- Settles O12: CLR A and CPL A compute as stated; INC A, DEC A and SWAP A by their results in numbers. -/
theorem accumulatorUnary : Obligations.AccumulatorUnary :=
  ⟨.of_encode rfl rfl rfl, .of_encode rfl rfl rfl, .of_encode rfl rfl rfl, .of_encode rfl rfl rfl,
    .of_encode rfl rfl rfl, fun s => ⟨exec_incA s, exec_decA s, rfl, rfl, exec_swapA s⟩⟩

/-! ### Rotates -/

theorem getLsbD_zero_rotateLeftCarry (a : Byte) (cy : Bool) : (rotateLeftCarry a cy).getLsbD 0 = cy :=
  BitVec.getLsbD_append.trans (by simp)

theorem getLsbD_succ_rotateLeftCarry (a : Byte) (cy : Bool) {n : Nat} (h : n < 7) :
    (rotateLeftCarry a cy).getLsbD (n + 1) = a.getLsbD n :=
  BitVec.getLsbD_append.trans (by simp [h])

theorem getLsbD_seven_rotateRightCarry (a : Byte) (cy : Bool) : (rotateRightCarry a cy).getLsbD 7 = cy :=
  BitVec.getLsbD_append.trans (by simp)

theorem getLsbD_rotateRightCarry (a : Byte) (cy : Bool) {n : Nat} (h : n < 7) :
    (rotateRightCarry a cy).getLsbD n = a.getLsbD (n + 1) :=
  BitVec.getLsbD_append.trans (by simp [h, Nat.add_comm])

theorem extractLsb'_one_eq_ofBool (a : Byte) (k : Nat) : a.extractLsb' k 1 = BitVec.ofBool (a.getLsbD k) := by
  ext n hn
  simp [Nat.lt_one_iff.mp hn]

/-- RL is RLC with bit 7 in the place of the carry. -/
theorem rotateLeft_eq_rotateLeftCarry (a : Byte) : rotateLeft a = rotateLeftCarry a (a.getLsbD 7) := by
  rw [rotateLeft, rotateLeftCarry, extractLsb'_one_eq_ofBool]

/-- RR is RRC with bit 0 in the place of the carry. -/
theorem rotateRight_eq_rotateRightCarry (a : Byte) : rotateRight a = rotateRightCarry a (a.getLsbD 0) := by
  rw [rotateRight, rotateRightCarry, extractLsb'_one_eq_ofBool]

theorem exec_rlA (s : State) : exec .rlA s = .next { s with a := rotateLeftCarry s.a (s.a.getLsbD 7) } := by
  rw [← rotateLeft_eq_rotateLeftCarry]; rfl

theorem exec_rrA (s : State) : exec .rrA s = .next { s with a := rotateRightCarry s.a (s.a.getLsbD 0) } := by
  rw [← rotateRight_eq_rotateRightCarry]; rfl

/-- Settles O13: each rotate is one through a carry, CY for RLC and RRC and the outgoing bit of A for RL and RR, and the two
rotates through a carry are known bit by bit. -/
theorem accumulatorRotates : Obligations.AccumulatorRotates :=
  ⟨.of_encode rfl rfl rfl, .of_encode rfl rfl rfl, .of_encode rfl rfl rfl, .of_encode rfl rfl rfl, fun s =>
    ⟨⟨_, exec_rlA s, rfl, getLsbD_zero_rotateLeftCarry _ _, fun _ => getLsbD_succ_rotateLeftCarry _ _⟩,
      ⟨_, rfl, rfl, getLsbD_zero_rotateLeftCarry _ _, fun _ => getLsbD_succ_rotateLeftCarry _ _⟩,
      ⟨_, exec_rrA s, rfl, getLsbD_seven_rotateRightCarry _ _, fun _ => getLsbD_rotateRightCarry _ _⟩,
      ⟨_, rfl, rfl, getLsbD_seven_rotateRightCarry _ _, fun _ => getLsbD_rotateRightCarry _ _⟩⟩⟩

end Sys2Proof.Machine

/-! The data moves of spec/41_data_moves.md: to the Accumulator, to data memory, and to and from the PSW. -/

namespace Sys2Proof.Machine

/-! ### Moves to the Accumulator -/

theorem codes_movARr (r : RegNum) : Codes (.movARr r) [0b11111#5 ++ r] 1 :=
  .of_encode (by revert r; decide) (by revert r; decide) rfl

theorem codes_movAInd (p : PtrNum) : Codes (.movAInd p) [0b1111000#7 ++ p] 1 :=
  .of_encode (by revert p; decide) (by revert p; decide) rfl

theorem exec_movAInd {s : State} {p : PtrNum} (h : (pointer s p).toNat < s.cfg.ramSize) :
    exec (.movAInd p) s = .next { s with a := s.ram.read (pointer s p).toNat } :=
  andThen_readInd h _

/-- Settles O16: the encodings by the value of the opcode's field; the forms with a register or an immediate byte compute as
stated, and the one with a pointer once its byte is read. -/
theorem movesToAccumulator : Obligations.MovesToAccumulator :=
  ⟨codes_movARr, codes_movAInd, fun _ => .of_encode rfl rfl rfl,
    fun _ => ⟨fun _ => rfl, fun _ h => exec_movAInd h, fun _ => rfl⟩⟩

/-! ### Moves to data memory -/

theorem codes_movRrA (r : RegNum) : Codes (.movRrA r) [0b10101#5 ++ r] 1 :=
  .of_encode (by revert r; decide) (by revert r; decide) rfl

theorem codes_movIndA (p : PtrNum) : Codes (.movIndA p) [0b1010000#7 ++ p] 1 :=
  .of_encode (by revert p; decide) (by revert p; decide) rfl

/-- Once the register number is a literal, the opcode is one too, and the data byte passes through unread. -/
theorem codes_movRrImm (r : RegNum) (d : Byte) : Codes (.movRrImm r d) [0b10111#5 ++ r, d] 2 := by
  fin_cases r <;> exact .of_encode rfl rfl rfl

theorem codes_movIndImm (p : PtrNum) (d : Byte) : Codes (.movIndImm p d) [0b1011000#7 ++ p, d] 2 := by
  fin_cases p <;> exact .of_encode rfl rfl rfl

/-- One byte written to canonical data memory is stored there and nowhere else. -/
theorem storesByte_write {s : State} (hwf : s.ram.wf = true) (addr : Nat) (v : Byte) :
    StoresByte (.next (s.setRam (s.ram.write addr v))) s addr v :=
  ⟨_, rfl, Memory.read_write_same hwf addr v, fun _ hb => Memory.read_write_other hb v _, rfl⟩

theorem storesByte_writeReg {s : State} (hwf : s.ram.wf = true) (r : RegNum) (v : Byte) :
    StoresByte (.next (writeReg s r v)) s (regAddr s.rbs r) v :=
  storesByte_write hwf _ v

/-- A write through `@Rr` stores at the pointer's address, where that is within data memory. -/
theorem storesByte_writeInd {s : State} (hwf : s.ram.wf = true) {p : PtrNum} (h : (pointer s p).toNat < s.cfg.ramSize)
    (v : Byte) : StoresByte (writeInd s p v) s (pointer s p).toNat v := by
  rw [writeInd_next.mpr ⟨h, rfl⟩]
  exact storesByte_write hwf _ v

/-- Settles O17: the encodings by the value of the opcode's field; each form is a write of a register or one through a
pointer, of A or of the data byte. -/
theorem movesToDataMemory : Obligations.MovesToDataMemory :=
  ⟨codes_movRrA, codes_movIndA, codes_movRrImm, codes_movIndImm, fun _ hwf =>
    ⟨fun r => storesByte_writeReg hwf r _, fun r d => storesByte_writeReg hwf r d,
      fun _ h => storesByte_writeInd hwf h _, fun _ d h => storesByte_writeInd hwf h d⟩⟩

/-! ### Moves from and to the PSW -/

theorem toNat_append_eq_add {m n : Nat} (x : BitVec m) (y : BitVec n) :
    (x ++ y).toNat = x.toNat * 2 ^ n + y.toNat := by
  rw [BitVec.toNat_append, ← Nat.shiftLeft_add_eq_or_of_lt y.isLt, Nat.shiftLeft_eq]

/-- The layout of R27 in numbers, each bit at its weight. -/
theorem toNat_pswByte (s : State) :
    (pswByte s).toNat
      = 128 * s.cy.toNat + 64 * s.ac.toNat + 32 + 16 * s.rbs.toNat + 8 * s.ps.toNat + s.sp.toNat := by
  simp only [pswByte, toNat_append_eq_add, BitVec.toNat_ofBool, BitVec.toNat_ofNat]
  omega

theorem exec_movAPsw (s : State) :
    exec .movAPsw s = .next { s with
      a := BitVec.ofNat 8
        (128 * s.cy.toNat + 64 * s.ac.toNat + 32 + 16 * s.rbs.toNat + 8 * s.ps.toNat + s.sp.toNat) } := by
  rw [← toNat_pswByte, BitVec.ofNat_toNat, BitVec.setWidth_eq]
  rfl

/-- Settles O19: MOV PSW,A computes as stated; MOV A,PSW by the value of the PSW in numbers. -/
theorem pswMoves : Obligations.PswMoves :=
  ⟨.of_encode rfl rfl rfl, .of_encode rfl rfl rfl, fun s => ⟨exec_movAPsw s, rfl⟩⟩

end Sys2Proof.Machine

/-! The carry flag and the working registers (spec/42_flag_register.md): CLR C, CPL C, and INC and DEC of a register or a RAM
byte. -/

namespace Sys2Proof.Machine

/-! ### Encodings of INC and DEC -/

theorem codes_incRr (r : RegNum) : Codes (.incRr r) [0b00011#5 ++ r] 1 :=
  .of_encode (by revert r; decide) (by revert r; decide) rfl

theorem codes_decRr (r : RegNum) : Codes (.decRr r) [0b11001#5 ++ r] 1 :=
  .of_encode (by revert r; decide) (by revert r; decide) rfl

theorem codes_incInd (p : PtrNum) : Codes (.incInd p) [0b0001000#7 ++ p] 1 :=
  .of_encode (by revert p; decide) (by revert p; decide) rfl

theorem codes_decInd (p : PtrNum) : Codes (.decInd p) [0b1100000#7 ++ p] 1 :=
  .of_encode (by revert p; decide) (by revert p; decide) rfl

/-! ### The byte that INC and DEC store -/

/-- A read and write through `@Rr` stores the new value at the pointer's address, where that is within data memory. -/
theorem storesByte_modifyInd {s : State} (hwf : s.ram.wf = true) {p : PtrNum} (h : (pointer s p).toNat < s.cfg.ramSize)
    (f : Byte → Byte) :
    StoresByte (modifyInd s p f) s (pointer s p).toNat (f (s.ram.read (pointer s p).toNat)) := by
  rw [modifyInd_next.mpr ⟨h, rfl⟩]
  exact storesByte_write hwf _ _

theorem storesByte_incRr {s : State} (hwf : s.ram.wf = true) (r : RegNum) :
    StoresByte (exec (.incRr r) s) s (regAddr s.rbs r) (BitVec.ofNat 8 (((readReg s r).toNat + 1) % 256)) := by
  rw [← byte_add_one_eq]
  exact storesByte_writeReg hwf r _

theorem storesByte_decRr {s : State} (hwf : s.ram.wf = true) (r : RegNum) :
    StoresByte (exec (.decRr r) s) s (regAddr s.rbs r) (BitVec.ofNat 8 (((readReg s r).toNat + 255) % 256)) := by
  rw [← byte_sub_one_eq]
  exact storesByte_writeReg hwf r _

theorem storesByte_incInd {s : State} (hwf : s.ram.wf = true) {p : PtrNum} (h : (pointer s p).toNat < s.cfg.ramSize) :
    StoresByte (exec (.incInd p) s) s (pointer s p).toNat
      (BitVec.ofNat 8 (((s.ram.read (pointer s p).toNat).toNat + 1) % 256)) := by
  rw [← byte_add_one_eq]
  exact storesByte_modifyInd hwf h _

theorem storesByte_decInd {s : State} (hwf : s.ram.wf = true) {p : PtrNum} (h : (pointer s p).toNat < s.cfg.ramSize) :
    StoresByte (exec (.decInd p) s) s (pointer s p).toNat
      (BitVec.ofNat 8 (((s.ram.read (pointer s p).toNat).toNat + 255) % 256)) := by
  rw [← byte_sub_one_eq]
  exact storesByte_modifyInd hwf h _

/-- Settles O21: CLR C and CPL C compute as stated; INC and DEC are a write of a register, or a read and write through a
pointer, of the byte plus or minus 1, whose value in numbers is that of INC A and DEC A. -/
theorem carryAndRegisterInstructions : Obligations.CarryAndRegisterInstructions :=
  ⟨.of_encode rfl rfl rfl, .of_encode rfl rfl rfl, fun r => ⟨codes_incRr r, codes_decRr r⟩,
    fun p => ⟨codes_incInd p, codes_decInd p⟩, fun _ => ⟨rfl, rfl⟩, fun _ hwf =>
      ⟨fun r => ⟨storesByte_incRr hwf r, storesByte_decRr hwf r⟩,
        fun _ h => ⟨storesByte_incInd hwf h, storesByte_decInd hwf h⟩⟩⟩

end Sys2Proof.Machine

/-! The timer/event counter and control instructions (spec/44_timer_control.md): the moves of T and the timer modes, the
interrupt enables, and the bank selects. None reads data memory or can stop, so each has one outcome in every state. -/

namespace Sys2Proof.Machine

/-- Settles O28: the four opcodes have no field, and each instruction writes the fields named and no other. -/
theorem timerInstructions : Obligations.TimerInstructions :=
  ⟨.of_encode rfl rfl rfl, .of_encode rfl rfl rfl, .of_encode rfl rfl rfl, .of_encode rfl rfl rfl,
    fun _ => ⟨rfl, rfl, rfl, rfl⟩⟩

/-- Settles O29: DIS TCNTI and DIS I clear the request flip-flops of their source together with the enable; EN SI and DIS SI
write SI alone, since the serial request is the level of the PIN line (R312) and no flip-flop stores it. -/
theorem interruptEnables : Obligations.InterruptEnables :=
  ⟨.of_encode rfl rfl rfl, .of_encode rfl rfl rfl, .of_encode rfl rfl rfl, .of_encode rfl rfl rfl,
    .of_encode rfl rfl rfl, fun _ => ⟨rfl, rfl, rfl, rfl, rfl⟩⟩

/-- Settles O31: RBS for the two register banks; for the memory banks, the number of the bank in binary in the two flip-flops,
MBFF0 the low bit. -/
theorem bankSelects : Obligations.BankSelects :=
  ⟨.of_encode rfl rfl rfl, .of_encode rfl rfl rfl, .of_encode rfl rfl rfl, .of_encode rfl rfl rfl,
    .of_encode rfl rfl rfl, .of_encode rfl rfl rfl, fun _ => ⟨rfl, rfl, rfl, rfl, rfl, rfl⟩⟩

end Sys2Proof.Machine

/-! Timer/event counter 1 over any number of machine cycles (spec/60_exceptions.md R330, R332): a machine cycle advances the
prescaler, and advances T as well when PS = 1 or the prescaler comes round to zero. -/

namespace Sys2Proof.Machine

/-! ### Counting up -/

/-- What `k` counts of T leave: T modulo 256, and the flags of an overflow where T passed from FFH to 00H. -/
def counted (k : Nat) (s : State) : State :=
  { s with
    t := BitVec.ofNat 8 ((s.t.toNat + k) % 256)
    tf := s.tf || decide (256 ≤ s.t.toNat + k)
    tif := s.tif || (s.ti && decide (256 ≤ s.t.toNat + k)) }

theorem counted_zero (s : State) : counted 0 s = s := by
  have no_overflow : ¬256 ≤ s.t.toNat := by omega
  have same : BitVec.ofNat 8 (s.t.toNat % 256) = s.t := by
    rw [Nat.mod_eq_of_lt s.t.isLt, BitVec.ofNat_toNat, BitVec.setWidth_eq]
  simp only [counted, Nat.add_zero, same, no_overflow, decide_false, Bool.and_false, Bool.or_false]

theorem ofNat_count_succ (t : Byte) (k : Nat) :
    BitVec.ofNat 8 (((t + 1).toNat + k) % 256) = BitVec.ofNat 8 ((t.toNat + (k + 1)) % 256) := by
  apply BitVec.eq_of_toNat_eq
  simp only [BitVec.toNat_ofNat, BitVec.toNat_add, BitVec.reduceToNat]
  omega

/-- T overflows in `k + 1` counts when it stands at FFH, or when it overflows in the `k` counts after the first. -/
theorem overflow_succ (t : Byte) (k : Nat) :
    (decide (t = 0xFF) || decide (256 ≤ (t + 1).toNat + k)) = decide (256 ≤ t.toNat + (k + 1)) := by
  by_cases last : t = 0xFF
  · subst last
    simp only [decide_true, Bool.true_or, BitVec.reduceToNat, true_eq_decide_iff]
    omega
  · have below : t.toNat < 255 := by bv_omega
    have no_wrap : (t + 1).toNat = t.toNat + 1 := by bv_omega
    simp only [last, no_wrap, decide_false, Bool.false_or, decide_eq_decide]
    omega

/-- `count()` is the first of the counts that `counted` sums up. -/
theorem counted_countT (k : Nat) (s : State) : counted k (countT s) = counted (k + 1) s := by
  calc counted k (countT s)
      = { s with
          t := BitVec.ofNat 8 (((s.t + 1).toNat + k) % 256)
          tf := (s.tf || decide (s.t = 0xFF)) || decide (256 ≤ (s.t + 1).toNat + k)
          tif := (s.tif || (s.ti && decide (s.t = 0xFF))) || (s.ti && decide (256 ≤ (s.t + 1).toNat + k)) } := rfl
    _ = counted (k + 1) s := by
        rw [ofNat_count_succ, Bool.or_assoc, Bool.or_assoc, ← Bool.and_or_distrib_left, overflow_succ, counted]

theorem countT_eq_counted_one (s : State) : countT s = counted 1 s := by
  rw [← counted_countT, counted_zero]

theorem counted_counted (j k : Nat) (s : State) : counted j (counted k s) = counted (j + k) s := by
  induction k generalizing s with
  | zero => rw [counted_zero, Nat.add_zero]
  | succ k ih => rw [← counted_countT, ih, counted_countT, Nat.add_assoc]

/-! ### The prescaler -/

/-- What `n` machine cycles leave of the prescaler. -/
def prescaled (n : Nat) (s : State) : State := { s with pre := BitVec.ofNat 5 ((s.pre.toNat + n) % 32) }

theorem prescaled_zero (s : State) : prescaled 0 s = s := by
  have same : BitVec.ofNat 5 (s.pre.toNat % 32) = s.pre := by
    rw [Nat.mod_eq_of_lt s.pre.isLt, BitVec.ofNat_toNat, BitVec.setWidth_eq]
  rw [prescaled, Nat.add_zero, same]

theorem prescaled_one (s : State) : prescaled 1 s = { s with pre := s.pre + 1 } := by
  have step : BitVec.ofNat 5 ((s.pre.toNat + 1) % 32) = s.pre + 1 :=
    BitVec.eq_of_toNat_eq (by simp [BitVec.toNat_add])
  rw [prescaled, step]

theorem prescaled_prescaled_one (n : Nat) (s : State) : prescaled n (prescaled 1 s) = prescaled (n + 1) s := by
  have advance : ((s.pre.toNat + 1) % 32 % 2 ^ 5 + n) % 32 = (s.pre.toNat + (n + 1)) % 32 := by omega
  simp only [prescaled, BitVec.toNat_ofNat, advance]

/-- How many of `n` machine cycles count T: all where PS = 1, else those at which the prescaler comes round to zero. -/
def cyclesCounted (n : Nat) (s : State) : Nat := if s.ps then n else (s.pre.toNat + n) / 32

theorem cyclesCounted_zero (s : State) : cyclesCounted 0 s = 0 := by
  unfold cyclesCounted
  split
  · rfl
  · omega

/-- The condition under which `timer_cycle()` counts. -/
theorem cyclesCounted_one (s : State) :
    cyclesCounted 1 s = if s.ps = true ∨ s.pre + 1 = 0 then 1 else 0 := by
  have round : s.pre + 1 = 0 ↔ s.pre.toNat = 31 := by bv_omega
  by_cases every : s.ps = true
  · simp [cyclesCounted, every]
  · simp only [cyclesCounted, every, round, false_or, Bool.false_eq_true, if_false]
    split <;> omega

theorem cyclesCounted_succ (n : Nat) (s : State) :
    cyclesCounted (n + 1) s = cyclesCounted n (prescaled 1 s) + cyclesCounted 1 s := by
  simp only [cyclesCounted, prescaled, BitVec.toNat_ofNat]
  split <;> omega

/-! ### Machine cycles -/

/-- One machine cycle in timer mode, in the terms of the closed form. -/
theorem timerCycle_running {s : State} (running : s.mode ≠ .stop) (timer : s.tmode = .timer) :
    timerCycle s = counted (cyclesCounted 1 s) (prescaled 1 s) := by
  rw [timerCycle, if_pos ⟨running, timer⟩, ← prescaled_one, cyclesCounted_one]
  split
  · exact countT_eq_counted_one _
  · exact (counted_zero _).symm

theorem timerCycle_still {s : State} (still : s.mode = .stop ∨ s.tmode ≠ .timer) : timerCycle s = s := by
  refine if_neg ?_
  rintro ⟨running, timer⟩
  exact still.elim running fun other => other timer

/-- Each cycle leaves the mode, TMODE and PS alone, so what the first cycle counts and what the others count adds up. -/
theorem timerCycles_running (n : Nat) {s : State} (running : s.mode ≠ .stop) (timer : s.tmode = .timer) :
    timerCycles n s = counted (cyclesCounted n s) (prescaled n s) := by
  induction n generalizing s with
  | zero => rw [cyclesCounted_zero, counted_zero, prescaled_zero]; rfl
  | succ n ih =>
    calc timerCycles (n + 1) s
        = timerCycles n (counted (cyclesCounted 1 s) (prescaled 1 s)) :=
          congrArg (timerCycles n) (timerCycle_running running timer)
      _ = counted (cyclesCounted n (prescaled 1 s)) (counted (cyclesCounted 1 s) (prescaled n (prescaled 1 s))) :=
          ih running timer
      _ = counted (cyclesCounted (n + 1) s) (prescaled (n + 1) s) := by
          rw [counted_counted, cyclesCounted_succ n, prescaled_prescaled_one]

theorem timerCycles_still (n : Nat) {s : State} (still : s.mode = .stop ∨ s.tmode ≠ .timer) : timerCycles n s = s := by
  induction n with
  | zero => rfl
  | succ n ih => rw [timerCycles, timerCycle_still still, ih]

/-- Settles O56, by induction on the number of machine cycles: the counts and the prescaler add up cycle by cycle, and where
one cycle changes nothing, any number changes nothing. -/
theorem timerCounts : Obligations.TimerCounts :=
  fun n _ => ⟨timerCycles_running n, timerCycles_still n⟩

end Sys2Proof.Machine

/-! The decoder against the encoder (spec/30_encoding.md R101 to R108): decoding undoes encoding, encoding undoes decoding,
and the opcodes that decode to nothing are the 32 of R107. -/

namespace Sys2Proof.Machine

/-! ### Decoding undoes encoding -/

/-- The opcode is read first: one check of the table for a fixed opcode, one for every value of the field in the others; a
second byte and the bytes behind pass through unread. -/
theorem decode_encode (i : Instr) (rest : List Byte) : decode (encode i ++ rest) = .ok (i, rest) := by
  cases i with
  | addARr r | addcARr r | anlARr r | orlARr r | xrlARr r | movARr r | movRrA r | xchARr r | incRr r | decRr r
  | movRrImm r _ | djnzRr r _ =>
    fin_cases r <;> rfl
  | addAInd p | addcAInd p | anlAInd p | orlAInd p | xrlAInd p | movAInd p | movIndA p | xchAInd p | xchdAInd p
  | incInd p | decInd p | movIndImm p _ | djnzInd p _ =>
    fin_cases p <;> rfl
  | jmp f _ | call f _ | jb f _ =>
    fin_cases f <;> rfl
  | _ => rfl

/-- Settles O1, by the form of the instruction. -/
theorem decodeEncodeRoundTrip : Obligations.DecodeEncodeRoundTrip :=
  decode_encode

/-- Decoding and the length need not be checked beside the encoding. -/
theorem Codes.of_encode_eq {i : Instr} {bytes : List Byte} {n : Nat} (he : encode i = bytes) (hc : i.cycles = n) :
    Codes i bytes n :=
  .of_encode he (he ▸ (List.append_nil (encode i) ▸ decode_encode i [])) hc

/-- Settles O5: each word is the encoding of its instruction. -/
theorem decodeWords : Obligations.DecodeWords :=
  ⟨decode_encode (.addARr 2) [], decode_encode (.addcAInd 1) [], decode_encode (.movRrImm 5 0x5A) [],
    decode_encode (.movIndImm 1 0xFF) [], decode_encode (.decRr 7) [], decode_encode (.jmp 3 0x80) [],
    decode_encode (.jb 7 0x10) [], decode_encode (.djnzRr 3 0x20) [], decode_encode .strtT [],
    decode_encode (.call 2 0x00) [], decode_encode (.anlP2Imm 0xF7) [], decode_encode (.anlDxA 0x10) [],
    decode_encode (.movS1Imm 0x18) []⟩

/-! ### Encoding undoes decoding -/

/-- A field put back where it was read: the bits of the opcode that the row's mask leaves out. -/
theorem setWidth_regField (op : Byte) : (regField op).setWidth 8 = op &&& 0x07 := by
  revert op; decide

theorem setWidth_ptrField (op : Byte) : (ptrField op).setWidth 8 = op &&& 0x01 := by
  revert op; decide

theorem setWidth_topField (op : Byte) : (topField op).setWidth 8 <<< 5 = op &&& 0xE0 := by
  revert op; decide

/-- What the row builds is encoded as the row's pattern with the operand fields of the opcode it was built from. -/
def RowEncodes (row : Row) : Prop :=
  ∀ op b2, encode (row.build op b2) = (row.pat ||| (op &&& ~~~row.mask)) :: if row.bytes = 2 then [b2] else []

theorem accumulatorRows_encode : ∀ row ∈ accumulatorRows, RowEncodes row := by
  simp [accumulatorRows, RowEncodes, encode, regOp, ptrOp, setWidth_regField, setWidth_ptrField]

theorem moveRows_encode : ∀ row ∈ moveRows, RowEncodes row := by
  simp [moveRows, RowEncodes, encode, regOp, ptrOp, setWidth_regField, setWidth_ptrField]

theorem flagRegisterRows_encode : ∀ row ∈ flagRegisterRows, RowEncodes row := by
  simp [flagRegisterRows, RowEncodes, encode, regOp, ptrOp, setWidth_regField, setWidth_ptrField]

theorem branchRows_encode : ∀ row ∈ branchRows, RowEncodes row := by
  simp [branchRows, RowEncodes, encode, regOp, ptrOp, topOp, setWidth_regField, setWidth_ptrField, setWidth_topField]

theorem timerControlRows_encode : ∀ row ∈ timerControlRows, RowEncodes row := by
  simp [timerControlRows, RowEncodes, encode]

theorem subroutineRows_encode : ∀ row ∈ subroutineRows, RowEncodes row := by
  simp [subroutineRows, RowEncodes, encode, topOp, setWidth_topField]

theorem ioRows_encode : ∀ row ∈ ioRows, RowEncodes row := by
  simp [ioRows, RowEncodes, encode]

theorem opcodeTable_encode : ∀ row ∈ opcodeTable, RowEncodes row := by
  simp only [opcodeTable, List.forall_mem_append]
  exact ⟨⟨⟨⟨⟨⟨accumulatorRows_encode, moveRows_encode⟩, flagRegisterRows_encode⟩, branchRows_encode⟩,
    timerControlRows_encode⟩, subroutineRows_encode⟩, ioRows_encode⟩

theorem pattern_or_fields (op mask : Byte) : op &&& mask ||| (op &&& ~~~mask) = op := by
  ext n hn
  cases h : op[n] <;> simp [h]

/-- What the row of an opcode builds is encoded by that opcode. -/
theorem encode_build {op : Byte} {row : Row} (h : lookupOpcode op = some row) (b2 : Byte) :
    encode (row.build op b2) = op :: if row.bytes = 2 then [b2] else [] := by
  have pattern : op &&& row.mask = row.pat := by simpa using List.find?_some h
  rw [opcodeTable_encode row (List.mem_of_find?_eq_some h), ← pattern, pattern_or_fields]

theorem opcodeOf_build {op : Byte} {row : Row} (h : lookupOpcode op = some row) (b2 : Byte) :
    opcodeOf (row.build op b2) = op := by
  rw [opcodeOf, encode_build h, List.headD_cons]

theorem length_build {op : Byte} {row : Row} (h : lookupOpcode op = some row) (b2 : Byte) :
    (row.build op b2).length = 2 ↔ row.bytes = 2 := by
  rw [Instr.length, encode_build h]
  split <;> simp_all

/-- Settles O2, by the three ways in which `decode` answers an instruction or an error. -/
theorem decodeDeterminesBytes : Obligations.DecodeDeterminesBytes := by
  intro bytes rest i h
  unfold decode at h
  split at h
  · cases h
  · split at h
    · cases h
    · rename_i row found
      split at h
      · rename_i two
        split at h
        · cases h
        · cases h; rw [encode_build found, if_pos two]; rfl
      · rename_i one
        cases h; rw [encode_build found, if_neg one]; rfl

/-- An instruction of one byte is the only one with its opcode. -/
theorem eq_of_opcodeOf_eq {i j : Instr} (one : encode j = [opcodeOf j]) (h : opcodeOf i = opcodeOf j) : i = j := by
  have split_i : ∃ tail, encode i = opcodeOf i :: tail := by
    cases hi : encode i with
    | nil => have empty := decode_encode i []; rw [hi] at empty; cases empty
    | cons op tail => exact ⟨tail, by rw [opcodeOf, hi, List.headD_cons]⟩
  obtain ⟨tail, hi⟩ := split_i
  have decoded_i := decode_encode i []
  rw [List.append_nil, hi, h] at decoded_i
  have decoded_j := decode_encode j tail
  rw [one, List.singleton_append, decoded_i] at decoded_j
  cases decoded_j; rfl

/-! ### The unassigned opcodes -/

theorem lookupOpcode_eq_none_iff (op : Byte) : lookupOpcode op = none ↔ op ∈ unassignedOpcodes := by
  have disjoint := (List.nodup_append.mp nodup_twoByteOpcodes_append_unassignedOpcodes).2.2
  have lengths := opcodeLength_eq op
  rw [opcodeLength] at lengths
  constructor
  · intro absent
    rw [absent] at lengths
    by_contra assigned
    rw [if_neg assigned] at lengths
    split at lengths <;> cases lengths
  · intro unassigned
    rw [if_neg fun two => disjoint op two op unassigned rfl, if_pos unassigned] at lengths
    exact Option.map_eq_none_iff.mp lengths

theorem decode_unassigned_iff (op : Byte) (rest : List Byte) :
    decode (op :: rest) = .error (.unassigned op) ↔ lookupOpcode op = none := by
  rw [decode]
  constructor
  · intro h
    split at h
    · assumption
    · split at h
      · split at h <;> cases h
      · cases h
  · intro absent
    rw [absent]

/-! ### The fetch -/

theorem fetchByte_of_inRom {s : State} {p : CodeAddr} (h : inRom s p = true) : fetchByte s p = .next (romByte s p) :=
  if_pos h

theorem inRom_iff {s : State} {p : CodeAddr} : inRom s p = true ↔ p.toNat < s.cfg.romSize := decide_eq_true_iff

theorem fetchByte_beyond {s : State} {p : CodeAddr} (h : s.cfg.romSize ≤ p.toNat) :
    fetchByte s p = .fault (.fetchBeyondRom p) :=
  if_neg fun inside => absurd (inRom_iff.mp inside) (Nat.not_lt.mpr h)

/-- Where nothing comes before it, a step is one instruction. -/
theorem step_executing {s : State} (h : Executing s) : step s = runInstruction s := by
  obtain ⟨reset, mode, accepted⟩ := h
  rw [step, cpuStep, reset, mode, accepted]
  rfl

/-- The prologue answers the instruction of the bytes at PC, and PC past them. -/
theorem fetch_of_decode {s : State} {i : Instr} {rest : List Byte} (first : inRom s s.pc = true)
    (second : i.length = 2 → inRom s (inc11 s.pc) = true)
    (h : decode [romByte s s.pc, romByte s (inc11 s.pc)] = .ok (i, rest)) :
    fetch s = .next (i, { s with pc := pastInstruction i s.pc }) := by
  rw [decode] at h
  rw [fetch, fetchByte_of_inRom first, andThen_of_next]
  cases found : lookupOpcode (romByte s s.pc) with
  | none => rw [found] at h; cases h
  | some row =>
    rw [found] at h
    dsimp only at h ⊢
    split at h
    · rename_i two
      cases h
      have long := (length_build found (romByte s (inc11 s.pc))).mpr two
      simp only [two, if_true, fetchByte_of_inRom (second long), andThen_of_next, pastInstruction, long]
      rfl
    · rename_i one
      cases h
      have short := mt (length_build found 0x00).mp one
      simp only [one, if_false, pastInstruction, short]
      rfl

/-- A fetch answers an instruction with the opcode at PC. -/
theorem opcodeOf_fetch {s t : State} {i : Instr} (h : fetch s = .next (i, t)) : opcodeOf i = romByte s s.pc := by
  obtain ⟨row, found, -, ⟨-, -, rfl, -⟩ | ⟨-, rfl, -⟩⟩ := fetch_next h
  · exact opcodeOf_build found _
  · exact opcodeOf_build found _

/-- The Program Counter counts within its bank (spec/10_state.md R32). -/
theorem inc11_bank (p : CodeAddr) : (inc11 p).extractLsb' 11 2 = p.extractLsb' 11 2 :=
  BitVec.extractLsb'_append_eq_left

/-- The prologue moves PC alone, within the bank. -/
theorem fetch_pc {s t : State} {i : Instr} (h : fetch s = .next (i, t)) :
    ∃ p : CodeAddr, p.extractLsb' 11 2 = s.pc.extractLsb' 11 2 ∧ t = s.setPc p := by
  obtain ⟨row, -, -, ⟨-, -, -, rfl⟩ | ⟨-, -, rfl⟩⟩ := fetch_next h
  · exact ⟨_, (inc11_bank _).trans (inc11_bank _), rfl⟩
  · exact ⟨_, inc11_bank _, rfl⟩

/-- Settles O3: the opcodes that decode to nothing are those the table does not hold, and the fetch looks up the table too. -/
theorem unassignedOpcodesRefused : Obligations.UnassignedOpcodesRefused := by
  refine ⟨rfl, fun op rest => (decode_unassigned_iff op rest).trans (lookupOpcode_eq_none_iff op), ?_⟩
  intro s executing inside unassigned
  rw [step_executing executing, runInstruction, fetch, fetchByte_of_inRom inside, andThen_of_next,
    (lookupOpcode_eq_none_iff _).mpr unassigned]
  rfl

/-- Settles O6: the fetch of the decoded instruction, then the definition of `runInstruction`. -/
theorem stepRunsDecodedInstruction : Obligations.StepRunsDecodedInstruction := by
  intro s i rest executing first second decoded
  rw [step_executing executing, runInstruction, fetch_of_decode first second decoded]
  rfl

end Sys2Proof.Machine

/-! The ends of the two memories (decision D4), the working registers (spec/10_state.md R22, R23), and in-page targets
(spec/43_branch.md R190, R191). -/

namespace Sys2Proof.Machine

/-! ### Data memory -/

theorem andThen_readInd_fault {α : Type} {s : State} {p : PtrNum} (h : s.cfg.ramSize ≤ (pointer s p).toNat)
    (f : Byte → Result α) : andThen (readInd s p) f = .fault (.dataBeyondRam (pointer s p)) := by
  rw [readInd_fault h, andThen_of_fault]

/-- Settles O8: two forms write through the pointer, the others read through it first. -/
theorem dataMemoryEnd : Obligations.DataMemoryEnd := by
  intro s p b h
  simp only [List.forall_mem_cons]
  exact ⟨andThen_readInd_fault h _, andThen_readInd_fault h _, andThen_readInd_fault h _, andThen_readInd_fault h _,
    andThen_readInd_fault h _, andThen_readInd_fault h _, writeInd_fault h, writeInd_fault h,
    andThen_readInd_fault h _, andThen_readInd_fault h _, andThen_readInd_fault h _, andThen_readInd_fault h _,
    andThen_readInd_fault h _, List.forall_mem_nil _⟩

/-- Settles O9: the addresses by definition, the rest from the laws of a memory write. -/
theorem workingRegisterBanks : Obligations.WorkingRegisterBanks :=
  ⟨fun r => ⟨Nat.zero_add r.toNat, rfl⟩, fun _ _ => rfl, fun _ => ⟨rfl, rfl⟩, fun _ r v hwf =>
    ⟨readReg_writeReg_same hwf r v, fun _ other => Memory.read_write_other other v _, rfl⟩⟩

/-! ### In-page targets -/

/-- R191 refuses exactly where the page of the target is not settled. -/
theorem pageEndRefused_eq_false_iff {s : State} : pageEndRefused s = false ↔ TargetPageKnown s := by
  unfold pageEndRefused atPageEnd TargetPageKnown
  cases rule : s.cfg.pageEndRule <;> simp

theorem pageEndRefused_eq_true_iff {s : State} : pageEndRefused s = true ↔ ¬TargetPageKnown s := by
  rw [← pageEndRefused_eq_false_iff, Bool.not_eq_false]

theorem takeInPage_known {s : State} (h : TargetPageKnown s) (b : Byte) :
    takeInPage s b = .next { s with pc := s.pc.extractLsb' 8 5 ++ b } :=
  takeInPage_next.mpr ⟨pageEndRefused_eq_false_iff.mpr h, rfl⟩

theorem takeInPage_refused {s : State} (h : ¬TargetPageKnown s) (b : Byte) : takeInPage s b = .refused .pageEnd :=
  if_pos (pageEndRefused_eq_true_iff.mpr h)

theorem tableRead_known {s : State} (h : TargetPageKnown s) {off : Byte}
    (inside : (s.pc.extractLsb' 8 5 ++ off).toNat < s.cfg.romSize) :
    tableRead s off = .next (s.rom.read (s.pc.extractLsb' 8 5 ++ off).toNat) :=
  tableRead_next.mpr ⟨pageEndRefused_eq_false_iff.mpr h, inRom_iff.mpr inside, rfl⟩

theorem tableRead_beyond {s : State} (h : TargetPageKnown s) {off : Byte}
    (beyond : s.cfg.romSize ≤ (s.pc.extractLsb' 8 5 ++ off).toNat) :
    tableRead s off = .fault (.tableBeyondRom (s.pc.extractLsb' 8 5 ++ off)) := by
  have outside : ¬inRom s (inPage s.pc off) = true := fun inside => absurd (inRom_iff.mp inside) (Nat.not_lt.mpr beyond)
  rw [tableRead, pageEndRefused_eq_false_iff.mpr h, if_neg Bool.false_ne_true, if_neg outside]
  rfl

theorem tableRead_refused {s : State} (h : ¬TargetPageKnown s) (off : Byte) : tableRead s off = .refused .pageEnd :=
  if_pos (pageEndRefused_eq_true_iff.mpr h)

/-- Settles O20: JMPP takes the table byte as an in-page target, with the page as settled as for the table read. -/
theorem tableReads : Obligations.TableReads := by
  refine ⟨.of_encode_eq rfl rfl, .of_encode_eq rfl rfl,
    fun s => ⟨fun known inside => ⟨?_, ?_⟩, fun unknown => ⟨?_, ?_⟩⟩⟩
  · rw [exec, execMovpAA, tableRead_known known inside]; rfl
  · rw [exec, execJmppA, tableRead_known known inside, andThen_of_next, takeInPage_known known]
  · rw [exec, execMovpAA, tableRead_refused unknown]; rfl
  · rw [exec, execJmppA, tableRead_refused unknown]; rfl

/-! ### Program memory -/

theorem lookupOpcode_twoByte {op : Byte} (h : op ∈ twoByteOpcodes) : ∃ row, lookupOpcode op = some row ∧ row.bytes = 2 := by
  have length := opcodeLength_eq op
  rw [if_pos h] at length
  exact Option.map_eq_some_iff.mp length

/-- Settles O7: the byte that the fetch or the table read asks for is the one beyond ROM_SIZE. -/
theorem programMemoryEnd : Obligations.ProgramMemoryEnd := by
  refine fun s => ⟨fun executing beyond => ?_, fun executing first two beyond => ?_, fun known beyond => ⟨?_, ?_⟩⟩
  · rw [step_executing executing, runInstruction, fetch, fetchByte_beyond beyond]; rfl
  · obtain ⟨row, found, bytes⟩ := lookupOpcode_twoByte two
    rw [step_executing executing, runInstruction, fetch, fetchByte_of_inRom (inRom_iff.mpr first), andThen_of_next, found]
    simp only [bytes, if_true, fetchByte_beyond beyond, andThen_of_fault]
  · rw [exec, execMovpAA, tableRead_beyond known beyond]; rfl
  · rw [exec, execJmppA, tableRead_beyond known beyond]; rfl

end Sys2Proof.Machine

/-! Decimal and binary addition (spec/40_accumulator.md R131, R133 to R138, R156) and the exchanges (spec/41_data_moves.md
R168 to R170). -/

namespace Sys2Proof.Machine

/-! ### Addition -/

theorem adds_addToA (s : State) (v : Byte) (c : Bool) : Adds (.next (addToA s v c)) s v c.toNat :=
  ⟨_, rfl, BitVec.toNat_ofNat _ _, decide_eq_true_iff, decide_eq_true_iff, rfl⟩

theorem adds_readInd {s : State} {p : PtrNum} (h : (pointer s p).toNat < s.cfg.ramSize) (c : Bool) :
    Adds (andThen (readInd s p) fun v => .next (addToA s v c)) s (s.ram.read (pointer s p).toNat) c.toNat :=
  andThen_readInd h (fun v => .next (addToA s v c)) ▸ adds_addToA s _ c

/-- Settles O10: every form is `addToA` of its operand, ADD with the carry 0. -/
theorem addAndAddcForms : Obligations.AddAndAddcForms := by
  refine ⟨fun r => ⟨.of_encode_eq ?_ rfl, .of_encode_eq ?_ rfl⟩, fun p => ⟨.of_encode_eq ?_ rfl, .of_encode_eq ?_ rfl⟩,
    fun d => ⟨.of_encode_eq rfl rfl, .of_encode_eq rfl rfl⟩,
    fun s => ⟨fun r => ⟨?_, ?_⟩, fun p h => ⟨?_, ?_⟩, fun d => ⟨?_, ?_⟩⟩⟩
  · revert r; decide
  · revert r; decide
  · revert p; decide
  · revert p; decide
  · exact adds_addToA s _ false
  · exact adds_addToA s _ s.cy
  · exact adds_readInd h false
  · exact adds_readInd h s.cy
  · exact adds_addToA s d false
  · exact adds_addToA s d s.cy

/-! ### Decimal adjustment -/

/-- The first adjustment as an exact sum. -/
def daFirst (a : Byte) (ac : Bool) : Nat := a.toNat + if daLowNeeded a ac then 6 else 0

theorem daLow_toNat (a : Byte) (ac : Bool) : (daLow a ac).toNat = daFirst a ac % 256 := by
  unfold daLow daFirst
  split
  · exact BitVec.toNat_add a 6
  · exact (Nat.mod_eq_of_lt a.isLt).symm

/-- The running carry is CY or the carry of the first adjustment. -/
theorem daCarry_eq (a : Byte) (cy ac : Bool) : daCarry a cy ac = (cy || decide (256 ≤ daFirst a ac)) := by
  have fits : ¬256 ≤ a.toNat := Nat.not_le.mpr a.isLt
  unfold daCarry daFirst
  cases daLowNeeded a ac
  · simp [fits]
  · have carries : 0xFF < a.toNat + 0x06 ↔ 256 ≤ a.toNat + 6 := Iff.rfl
    simp [carries]

theorem daHighNeeded_eq (a : Byte) (cy ac : Bool) :
    daHighNeeded a cy ac = (cy || decide (256 ≤ daFirst a ac) || decide (9 < daFirst a ac % 256 / 16)) := by
  rw [daHighNeeded, daCarry_eq, daLow_toNat]

/-- The second adjustment, done or not, from the exact sum of the first. -/
theorem daSecond_toNat (a : Byte) (ac high : Bool) :
    (if high then daLow a ac + 0x60 else daLow a ac).toNat
      = (if high then daFirst a ac + 96 else daFirst a ac) % 256 := by
  cases high
  · simp [daLow_toNat]
  · simp [BitVec.toNat_add, daLow_toNat]

theorem daMcs48_toNat (a : Byte) (cy ac : Bool) :
    (daMcs48 a cy ac).toNat = (if daHighNeeded a cy ac then daFirst a ac + 96 else daFirst a ac) % 256 :=
  daSecond_toNat a ac _

theorem daDatasheet_toNat (a : Byte) (ac : Bool) :
    (daDatasheet a ac).toNat = (if 9 < daFirst a ac % 256 / 16 then daFirst a ac + 96 else daFirst a ac) % 256 := by
  have second := daSecond_toNat a ac (decide (9 < (daLow a ac).toNat / 16))
  simpa only [decide_eq_true_eq, daLow_toNat, daDatasheet] using second

theorem exec_daA_mcs48 {s : State} (h : s.cfg.daRule = .mcs48) :
    exec .daA s = .next { s with a := daMcs48 s.a s.cy s.ac, cy := daHighNeeded s.a s.cy s.ac } := by
  rw [exec, execDaA, h]; rfl

theorem exec_daA_datasheet {s : State} (h : s.cfg.daRule = .datasheet) :
    exec .daA s = .next { s with
      a := daDatasheet s.a s.ac, cy := Config.freeBit s.draws, draws := s.draws + 1 } := by
  rw [exec, execDaA, h]; rfl

/-- Settles O14: both rules from the exact sum of the first adjustment. -/
theorem decimalAdjust : Obligations.DecimalAdjust := by
  refine ⟨.of_encode_eq rfl rfl, fun s => ?_⟩
  cases rule : s.cfg.daRule with
  | datasheet => exact ⟨_, exec_daA_datasheet rule, daDatasheet_toNat _ _, rfl⟩
  | mcs48 =>
    refine ⟨_, exec_daA_mcs48 rule, ?_, ?_⟩
    · exact daHighNeeded_eq s.a s.cy s.ac ▸ daMcs48_toNat s.a s.cy s.ac
    · exact daHighNeeded_eq s.a s.cy s.ac ▸ rfl

/-- The digits of a binary sum of two decimal numbers: `high` and `low` are the sums of the digits, `low` with the carry in. A
digit sum above 9 is the decimal carry, and 6 more, or 60H more, makes up for the six values that a digit skips. -/
theorem decimal_digits : ∀ high < 19, ∀ low < 20,
    let first := (16 * high + low) % 256 + if 9 < low then 6 else 0
    let adjusted := (if 100 ≤ 10 * high + low then first + 96 else first) % 256
    (256 ≤ 16 * high + low ∨ 256 ≤ first ∨ 9 < first % 256 / 16 ↔ 100 ≤ 10 * high + low)
      ∧ adjusted % 16 = low % 10 ∧ adjusted / 16 = (high + low / 10) % 10 := by
  decide

/-- Binary addition and DA A add decimal numbers; CY is the hundred. -/
theorem daMcs48_add8 {a d : Byte} (ha : IsBcd a) (hd : IsBcd d) (c : Bool) :
    let sum := add8 a d c
    let adjusted := daMcs48 sum.result sum.cy sum.ac
    IsBcd adjusted
      ∧ 100 * (daHighNeeded sum.result sum.cy sum.ac).toNat + bcdValue adjusted = bcdValue a + bcdValue d + c.toNat := by
  intro sum adjusted
  obtain ⟨ha0, ha1⟩ := ha
  obtain ⟨hd0, hd1⟩ := hd
  have carry : c.toNat ≤ 1 := c.toNat_le
  obtain ⟨high, hhigh⟩ : ∃ n, n = a.toNat / 16 + d.toNat / 16 := ⟨_, rfl⟩
  obtain ⟨low, hlow⟩ : ∃ n, n = a.toNat % 16 + d.toNat % 16 + c.toNat := ⟨_, rfl⟩
  have exact_sum : a.toNat + d.toNat + c.toNat = 16 * high + low := by omega
  have decimal_sum : bcdValue a + bcdValue d + c.toNat = 10 * high + low := by simp only [bcdValue]; omega
  have value : sum.result.toNat = (16 * high + low) % 256 := exact_sum ▸ BitVec.toNat_ofNat _ _
  have cy : sum.cy = decide (256 ≤ 16 * high + low) := exact_sum ▸ rfl
  have ac : sum.ac = decide (16 ≤ low) := hlow ▸ rfl
  have lowNeeded : daLowNeeded sum.result sum.ac = decide (9 < low) := by
    rw [daLowNeeded, value, ac, Bool.eq_iff_iff]
    simp only [Bool.or_eq_true, decide_eq_true_eq]
    omega
  have first : daFirst sum.result sum.ac = (16 * high + low) % 256 + if 9 < low then 6 else 0 := by
    rw [daFirst, lowNeeded, value]; simp only [decide_eq_true_eq]
  obtain ⟨decimal_carry, digit0, digit1⟩ := decimal_digits high (by omega) low (by omega)
  have highNeeded : daHighNeeded sum.result sum.cy sum.ac = decide (100 ≤ 10 * high + low) := by
    rw [daHighNeeded_eq, first, cy, Bool.eq_iff_iff]
    simpa only [Bool.or_eq_true, decide_eq_true_eq, or_assoc] using decimal_carry
  have result := daMcs48_toNat sum.result sum.cy sum.ac
  simp only [highNeeded, first, decide_eq_true_eq] at result
  rw [← result] at digit0 digit1
  rw [decimal_sum, highNeeded, IsBcd, bcdValue, digit0, digit1]
  by_cases hundred : 100 ≤ 10 * high + low <;>
    simp only [hundred, decide_true, decide_false, Bool.toNat_true, Bool.toNat_false] <;> omega

/-- Settles O15: the sum that ADDC leaves, adjusted. -/
theorem decimalAddition : Obligations.DecimalAddition := by
  intro s d rule ha hd
  obtain ⟨digits, value⟩ := daMcs48_add8 ha hd s.cy
  exact ⟨_, exec_daA_mcs48 (s := addToA s d s.cy) rule, digits, value⟩

/-! ### Exchanges -/

theorem toNat_extractLsb'_low (v : Byte) : (v.extractLsb' 0 4).toNat = v.toNat % 16 := by simp

theorem toNat_extractLsb'_high (v : Byte) : (v.extractLsb' 4 4).toNat = v.toNat / 16 := by
  rw [BitVec.extractLsb'_toNat, Nat.shiftRight_eq_div_pow, Nat.mod_eq_of_lt (by omega)]

/-- The high digit of one byte before the low digit of another, in numbers. -/
theorem nibbles_eq (x y : Byte) :
    x.extractLsb' 4 4 ++ y.extractLsb' 0 4 = BitVec.ofNat 8 (x.toNat / 16 * 16 + y.toNat % 16) := by
  have fits : x.toNat / 16 * 16 + y.toNat % 16 < 2 ^ 8 := by omega
  apply BitVec.eq_of_toNat_eq
  rw [toNat_append_eq_add, toNat_extractLsb'_low, toNat_extractLsb'_high, BitVec.toNat_ofNat, Nat.mod_eq_of_lt fits]
  rfl

theorem storesByteAndA_write {s : State} (hwf : s.ram.wf = true) (addr : Nat) (v a : Byte) :
    StoresByteAndA (.next ((s.setRam (s.ram.write addr v)).setA a)) s addr v a :=
  ⟨_, rfl, Memory.read_write_same hwf addr v, fun _ other => Memory.read_write_other other v _, rfl⟩

/-- An exchange through `@Rr`: the byte there is read, another is stored in its place, and A takes a value. -/
theorem storesByteAndA_exchangeInd {s : State} (hwf : s.ram.wf = true) {p : PtrNum}
    (h : (pointer s p).toNat < s.cfg.ramSize) (stored loaded : Byte → Byte) :
    StoresByteAndA
      (andThen (readInd s p) fun m => andThen (writeInd s p (stored m)) fun s' => .next (s'.setA (loaded m)))
      s (pointer s p).toNat (stored (s.ram.read (pointer s p).toNat)) (loaded (s.ram.read (pointer s p).toNat)) := by
  rw [andThen_readInd h, writeInd_next.mpr ⟨h, rfl⟩, andThen_of_next]
  exact storesByteAndA_write hwf _ _ _

theorem storesByteAndA_xchdAInd {s : State} (hwf : s.ram.wf = true) {p : PtrNum}
    (h : (pointer s p).toNat < s.cfg.ramSize) :
    let m := s.ram.read (pointer s p).toNat
    StoresByteAndA (exec (.xchdAInd p) s) s (pointer s p).toNat
      (BitVec.ofNat 8 (m.toNat / 16 * 16 + s.a.toNat % 16)) (BitVec.ofNat 8 (s.a.toNat / 16 * 16 + m.toNat % 16)) := by
  intro m
  rw [← nibbles_eq, ← nibbles_eq]
  exact storesByteAndA_exchangeInd hwf h (fun m => m.extractLsb' 4 4 ++ s.a.extractLsb' 0 4)
    (fun m => s.a.extractLsb' 4 4 ++ m.extractLsb' 0 4)

/-- Settles O18: an exchange with a register is a write of A there and of the register to A; the two with a RAM byte differ in
what they keep of each. -/
theorem exchanges : Obligations.Exchanges := by
  refine ⟨fun r => .of_encode_eq ?_ rfl, fun p => .of_encode_eq ?_ rfl, fun p => .of_encode_eq ?_ rfl, fun s hwf =>
    ⟨fun r => storesByteAndA_write hwf _ _ _, fun p h => ?_, fun p h => storesByteAndA_xchdAInd hwf h⟩⟩
  · revert r; decide
  · revert p; decide
  · revert p; decide
  · exact storesByteAndA_exchangeInd hwf h (fun _ => s.a) id

end Sys2Proof.Machine

/-! The branches (spec/43_branch.md), and the stack: CALL, RET and RETR (spec/45_subroutine.md) and the forced CALL of an
interrupt (spec/60_exceptions.md R315). -/

namespace Sys2Proof.Machine

/-! ### Conditional branches -/

/-- A conditional branch on a bit that says whether `p` holds. -/
theorem branches_branchIf {c : Bool} {p : Prop} (hc : c = true ↔ p) (s : State) (b : Byte) :
    Branches (branchIf c s b) p s b := by
  cases c with
  | false =>
    have fails : ¬p := fun hp => Bool.false_ne_true (hc.mpr hp)
    exact ⟨fun _ => rfl, fun hp => absurd hp fails, fun hp => absurd hp fails⟩
  | true =>
    have holds : p := hc.mp rfl
    exact ⟨fun fails => absurd holds fails, fun _ known => takeInPage_known known b,
      fun _ unknown => takeInPage_refused unknown b⟩

theorem topOp_eq_append (f : BitVec 3) :
    topOp 0x04 f = f ++ 0b00100#5 ∧ topOp 0x14 f = f ++ 0b10100#5 ∧ topOp 0x12 f = f ++ 0b10010#5 := by
  revert f; decide

theorem codes_jb (n : BitNum) (b : Byte) : Codes (.jb n b) [n ++ 0b10010#5, b] 2 :=
  .of_encode_eq (congrArg (· :: [b]) (topOp_eq_append n).2.2) rfl

theorem not_eq_true_iff (c : Bool) : (!c) = true ↔ c = false := (Bool.not_eq_true' c).to_iff

/-- Settles O25: each instruction is `branchIf` of its condition. -/
theorem conditionalBranches : Obligations.ConditionalBranches := by
  refine ⟨codes_jb, fun b => ⟨.of_encode_eq rfl rfl, .of_encode_eq rfl rfl, .of_encode_eq rfl rfl, .of_encode_eq rfl rfl,
    .of_encode_eq rfl rfl, .of_encode_eq rfl rfl, .of_encode_eq rfl rfl, .of_encode_eq rfl rfl⟩, fun s b => ?_⟩
  exact ⟨fun n => branches_branchIf Iff.rfl s b, branches_branchIf Iff.rfl s b, branches_branchIf (not_eq_true_iff _) s b,
    branches_branchIf decide_eq_true_iff s b, branches_branchIf decide_eq_true_iff s b, branches_branchIf Iff.rfl s b,
    branches_branchIf (not_eq_true_iff _) s b, branches_branchIf Iff.rfl s b, branches_branchIf (not_eq_true_iff _) s b⟩

/-- Settles O26: the branch is taken from the state with TF reset, on TF before. -/
theorem timerFlagBranches : Obligations.TimerFlagBranches :=
  ⟨fun _ => ⟨.of_encode_eq rfl rfl, .of_encode_eq rfl rfl⟩,
    fun _ b => ⟨branches_branchIf Iff.rfl _ b, branches_branchIf (not_eq_true_iff _) _ b⟩⟩

theorem codes_djnzRr (r : RegNum) (b : Byte) : Codes (.djnzRr r b) [0b11101#5 ++ r, b] 2 :=
  .of_encode_eq (congrArg (· :: [b]) (by revert r; decide)) rfl

theorem codes_djnzInd (p : PtrNum) (b : Byte) : Codes (.djnzInd p b) [0b1110000#7 ++ p, b] 2 :=
  .of_encode_eq (congrArg (· :: [b]) (by revert p; decide)) rfl

/-- Settles O24: both forms store the byte less 1 and branch on it, from the state after the store. -/
theorem decrementAndBranch : Obligations.DecrementAndBranch := by
  refine ⟨codes_djnzRr, codes_djnzInd, fun s b hwf => ?_⟩
  intro after
  have decremented (addr : Nat) : after addr
      (branchIf (decide (s.ram.read addr - 1 ≠ 0x00)) (s.setRam (s.ram.write addr (s.ram.read addr - 1))) b) := by
    simp only [after, ← byte_sub_one_eq]
    exact ⟨_, Memory.read_write_same hwf addr _, fun _ other => Memory.read_write_other other _ _, rfl,
      branches_branchIf decide_eq_true_iff _ b⟩
  refine ⟨fun r => decremented _, fun p h => ?_⟩
  rw [exec, execDjnzInd, andThen_readInd h, writeInd_next.mpr ⟨h, rfl⟩]
  exact decremented _

/-! ### A level of the stack in numbers -/

theorem hiAddr_eq (c : Config) (n : BitVec 3) :
    hiAddr c n = 8 + 2 * n.toNat + if c.stackPswByteAtEven then 0 else 1 := by
  unfold hiAddr levelBase; split <;> rfl

theorem loAddr_eq (c : Config) (n : BitVec 3) :
    loAddr c n = 8 + 2 * n.toNat + if c.stackPswByteAtEven then 1 else 0 := by
  unfold loAddr levelBase; split <;> rfl

theorem toNat_stackHi (cy ac rbs : Bool) (ret : CodeAddr) :
    (stackHi cy ac rbs ret).toNat =
      128 * cy.toNat + 64 * ac.toNat + 32 * (ret.toNat / 4096) + 16 * rbs.toNat + ret.toNat / 256 % 16 := by
  have fits := ret.isLt
  simp only [stackHi, toNat_append_eq_add, BitVec.toNat_ofBool, BitVec.extractLsb'_toNat, Nat.shiftRight_eq_div_pow]
  omega

theorem toNat_stackLo (ret : CodeAddr) : (stackLo ret).toNat = ret.toNat % 256 := by
  simp [stackLo]

theorem stackRet_eq (hi lo : Byte) :
    stackRet hi lo = BitVec.ofNat 13 (hi.toNat / 32 % 2 * 4096 + hi.toNat % 16 * 256 + lo.toNat) := by
  have fits := lo.isLt
  apply BitVec.eq_of_toNat_eq
  simp only [stackRet, toNat_append_eq_add, BitVec.extractLsb'_toNat, Nat.shiftRight_eq_div_pow, BitVec.toNat_ofNat]
  omega

theorem stackRet_stackHi_stackLo (cy ac rbs : Bool) (ret : CodeAddr) :
    stackRet (stackHi cy ac rbs ret) (stackLo ret) = ret := by
  have fits := ret.isLt
  have cy_le := cy.toNat_le
  have ac_le := ac.toNat_le
  have rbs_le := rbs.toNat_le
  apply BitVec.eq_of_toNat_eq
  rw [stackRet_eq, toNat_stackHi, toNat_stackLo, BitVec.toNat_ofNat]
  omega

theorem getLsbD_stackHi (cy ac rbs : Bool) (ret : CodeAddr) :
    (stackHi cy ac rbs ret).getLsbD 7 = cy ∧ (stackHi cy ac rbs ret).getLsbD 6 = ac
      ∧ (stackHi cy ac rbs ret).getLsbD 4 = rbs := by
  have bit_eq {n : Nat} {b : Bool} (h : n % 2 = b.toNat) : decide (n % 2 = 1) = b := by cases b <;> simp [h]
  have fits := ret.isLt
  have cy_le := cy.toNat_le
  have ac_le := ac.toNat_le
  have rbs_le := rbs.toNat_le
  simp only [BitVec.getLsbD, Nat.testBit_eq_decide_div_mod_eq, toNat_stackHi]
  exact ⟨bit_eq (by omega), bit_eq (by omega), bit_eq (by omega)⟩

/-- A pop reads back what a push put into the level. -/
theorem stackLevel_of_pushed {u : State} {n : BitVec 3} {cy ac rbs : Bool} {ret : CodeAddr}
    (hi : u.ram.read (hiAddr u.cfg n) = stackHi cy ac rbs ret) (lo : u.ram.read (loAddr u.cfg n) = stackLo ret) :
    stackLevel u n = ⟨ret, cy, ac, rbs⟩ := by
  obtain ⟨bit7, bit6, bit4⟩ := getLsbD_stackHi cy ac rbs ret
  simp only [stackLevel, hi, lo, stackRet_stackHi_stackLo, bit7, bit6, bit4]

/-! ### JMP and CALL -/

theorem sp_add_one_eq (sp : BitVec 3) : sp + 1 = BitVec.ofNat 3 ((sp.toNat + 1) % 8) :=
  BitVec.eq_of_toNat_eq (by simp [BitVec.toNat_add])

theorem exec_call (s : State) (n : PageNum) (b : Byte) :
    exec (.call n b) s = .next ((push s s.pc).setPc (longTarget s n b)) := rfl

/-- Settles O22: the level that CALL pushes, in numbers. -/
theorem jumpAndCall : Obligations.JumpAndCall := by
  refine ⟨fun n b => ⟨.of_encode_eq (congrArg (· :: [b]) (topOp_eq_append n).1) rfl,
    .of_encode_eq (congrArg (· :: [b]) (topOp_eq_append n).2.1) rfl⟩, fun _ _ _ => rfl, fun s n b hwf => ?_⟩
  refine ⟨_, exec_call s n b, ?_, hiAddr_eq _ _, loAddr_eq _ _, ?_, ?_, fun a => push_read_other⟩
  · rw [← sp_add_one_eq]; rfl
  · exact (congrArg _ (push_read_hi hwf s.pc)).trans (toNat_stackHi ..)
  · exact (congrArg _ (push_read_lo hwf s.pc)).trans (toNat_stackLo _)

/-! ### RET and RETR -/

/-- The level that a pop reads, in numbers. -/
theorem stackLevel_eq (s : State) (n : BitVec 3) :
    let hi := (s.ram.read (8 + 2 * n.toNat + if s.cfg.stackPswByteAtEven then 0 else 1)).toNat
    let lo := (s.ram.read (8 + 2 * n.toNat + if s.cfg.stackPswByteAtEven then 1 else 0)).toNat
    stackLevel s n =
      { ret := BitVec.ofNat 13 (hi / 32 % 2 * 4096 + hi % 16 * 256 + lo)
        cy := decide (hi / 128 % 2 = 1)
        ac := decide (hi / 64 % 2 = 1)
        rbs := decide (hi / 16 % 2 = 1) } := by
  intro hi lo
  simp only [stackLevel, stackRet_eq, hiAddr_eq, loAddr_eq, BitVec.getLsbD, Nat.testBit_eq_decide_div_mod_eq]
  rfl

theorem bank_ne_zero_iff (p : CodeAddr) : p.extractLsb' 11 2 ≠ 0 ↔ 2048 ≤ p.toNat := by
  have fits := p.isLt
  rw [ne_eq, ← BitVec.toNat_inj, BitVec.extractLsb'_toNat, Nat.shiftRight_eq_div_pow]
  simp only [BitVec.reduceToNat]
  omega

theorem exec_ret_next {s t : State} :
    exec .ret s = .next t ↔
      ¬(s.iip = true ∧ (stackLevel s (s.sp - 1)).ret.extractLsb' 11 2 ≠ 0)
        ∧ t = { s with sp := s.sp - 1, pc := (stackLevel s (s.sp - 1)).ret } := returnFromSubroutine_next

theorem exec_ret_refused {s : State} (iip : s.iip = true) (bank : (stackLevel s (s.sp - 1)).ret.extractLsb' 11 2 ≠ 0) :
    exec .ret s = .refused .retToOtherBank := by
  refine if_pos ?_
  rw [iip, decide_eq_true bank]; rfl

/-- Settles O23: the level below the Stack Pointer, read in numbers. -/
theorem returns : Obligations.Returns := by
  refine ⟨.of_encode_eq rfl rfl, .of_encode_eq rfl rfl, fun s => ?_⟩
  intro n hi lo ret
  have level := stackLevel_eq s n
  have popped : (stackLevel s n).ret = ret := congrArg Popped.ret level
  refine ⟨fun allowed => ?_, fun iip other => ?_, ?_⟩
  · refine exec_ret_next.mpr ⟨?_, by rw [popped]⟩
    rwa [popped, bank_ne_zero_iff]
  · exact exec_ret_refused iip (by rwa [popped, bank_ne_zero_iff])
  · change Host.Outcome.next (returnFromInterrupt s) = _
    rw [returnFromInterrupt, level]

/-- Settles O46: the pop reads the level that the CALL pushed; the address after the CALL is in bank 0 while IIP = 1. -/
theorem returnUndoesCall : Obligations.ReturnUndoesCall := by
  intro s t n b hwf frozen h
  cases h
  have level : stackLevel ((push s s.pc).setPc (longTarget s n b)) (s.sp + 1 - 1) = ⟨s.pc, s.cy, s.ac, s.rbs⟩ := by
    rw [BitVec.add_sub_cancel]
    exact stackLevel_of_pushed (push_read_hi hwf s.pc) (push_read_lo hwf s.pc)
  refine exec_ret_next.mpr ⟨?_, ?_⟩
  · rintro ⟨iip, bank⟩
    exact bank ((congrArg _ (congrArg Popped.ret level)).trans (frozen iip))
  · change _ = { (push s s.pc).setPc (longTarget s n b) with
      sp := s.sp + 1 - 1, pc := (stackLevel ((push s s.pc).setPc (longTarget s n b)) (s.sp + 1 - 1)).ret }
    rw [level, BitVec.add_sub_cancel]

/-! ### Interrupts -/

theorem takeInterrupt_ram (s : State) (src : IntSource) : (takeInterrupt s src).ram = (push s s.pc).ram := by
  rw [takeInterrupt_frame]

theorem takeInterrupt_sp (s : State) (src : IntSource) : (takeInterrupt s src).sp = s.sp + 1 := by
  rw [takeInterrupt_frame]

/-- Settles O47: the level below the Stack Pointer is the one that the entry pushed. -/
theorem interruptReturnRestores : Obligations.InterruptReturnRestores := by
  intro s h src hwf cfg sp hi lo
  have below : h.sp - 1 = s.sp := by rw [sp, takeInterrupt_sp, BitVec.add_sub_cancel]
  have level : stackLevel h (h.sp - 1) = ⟨s.pc, s.cy, s.ac, s.rbs⟩ := by
    rw [takeInterrupt_ram, ← cfg] at hi lo
    rw [below]
    exact stackLevel_of_pushed (hi.trans (cfg ▸ push_read_hi hwf s.pc)) (lo.trans (cfg ▸ push_read_lo hwf s.pc))
  change Host.Outcome.next (returnFromInterrupt h) = _
  rw [returnFromInterrupt, level, below]

/-- Where an interrupt is accepted, the step is its entry. -/
theorem step_accepted {s : State} {src : IntSource} (reset : s.pins.reset = false) (running : s.mode ≠ .stop)
    (accepted : acceptedSource s = some src) :
    step s = .next (devicesStep s.cfg.intEntryCycles (takeInterrupt s src)) := by
  rw [step, cpuStep, reset, accepted]
  cases mode : s.mode with
  | stop => exact absurd mode running
  | idle => rfl
  | normal => rfl

/-- Settles O43: the frame of an entry, and the level it pushes in numbers. -/
theorem interruptEntry : Obligations.InterruptEntry := by
  intro s src hwf reset running accepted
  refine ⟨_, step_accepted reset running accepted, ?_, ?_, ?_, fun a hi lo => ?_⟩
  · have mode : (if s.mode = .idle then PowerMode.normal else s.mode) = .normal := by
      cases mode : s.mode <;> simp_all
    rw [takeInterrupt_frame, mode]
    cases src <;> simp [IntSource.vector]
  · rw [takeInterrupt_ram, push_read_hi hwf]; exact toNat_stackHi ..
  · rw [takeInterrupt_ram, push_read_lo hwf]; exact toNat_stackLo _
  · rw [takeInterrupt_ram]; exact push_read_other hi lo

theorem pinLineLow_iff (s : State) :
    pinLineLow s = true ↔ (s.cfg.hasI2C = true ∧ s.i2c.pin = false)
      ∨ (s.cfg.hasDeriv = true ∧ (derivModel s.cfg).requests s.deriv = true) := by
  simp [pinLineLow]

/-- Settles O42: `pendingSource` asks the sources in the order of their priority. -/
theorem interruptPriority : Obligations.InterruptPriority := by
  intro s pinLow boundaryOpen serial
  have serial_iff : requests s .serial = true ↔ serial := by
    simp only [requests, Bool.and_eq_true, pinLineLow_iff, serial, pinLow]
  have open_iff : (s.iip || s.retrShadow) = false ↔ boundaryOpen := Bool.or_eq_false_iff
  by_cases boundary : boundaryOpen
  · rw [acceptedSource, open_iff.mpr boundary, if_neg Bool.false_ne_true, pendingSource, requests.eq_1, requests.eq_3]
    by_cases external : s.eif = true
    · simp [external, boundary]
    · by_cases asked : serial
      · simp [external, boundary, serial_iff.mpr asked, asked]
      · simp [external, boundary, mt serial_iff.mp asked, asked]
  · rw [acceptedSource, if_pos ((Bool.not_eq_false _).mp (mt open_iff.mp boundary))]
    simp [boundary]

/-- The boundary is closed during the hold-off and while an interrupt is in progress. -/
theorem acceptedSource_closed {s : State} (h : s.iip = true ∨ s.retrShadow = true) : acceptedSource s = none :=
  if_pos ((Bool.or_eq_true _ _).mpr h)

end Sys2Proof.Machine

/-! The parallel ports (spec/46_io.md R250 to R262, spec/60_exceptions.md R341), the instructions that change the power mode, and
the state after reset. -/

namespace Sys2Proof.Machine

/-! ### The lines of a port -/

theorem getLsbD_portLine {n : Nat} (pff pushPull ext : BitVec n) (k : Nat) :
    (portLine pff pushPull ext).getLsbD k = (pff.getLsbD k && (pushPull.getLsbD k || ext.getLsbD k)) := by
  rw [portLine, BitVec.getLsbD_and, BitVec.getLsbD_or]

theorem getLsbD_pushPullMask8 (o : Vector PortOption 8) (n : Fin 8) :
    (pushPullMask8 o).getLsbD n = decide (o[n] = .pushPull) := by
  fin_cases n <;> simp only [pushPullMask8, BitVec.getLsbD_append] <;> simp [isPushPull]

theorem getLsbD_pushPullMask2 (o : Vector PortOption 3) (n : Fin 3) :
    (pushPullMask2 o).getLsbD n = decide (o[n] = .pushPull) := by
  fin_cases n <;> simp only [pushPullMask2, BitVec.getLsbD_append] <;> simp [isPushPull]

/-- SDA/P2.3 is open-drain. -/
theorem getLsbD_three_pushPullMask2 (o : Vector PortOption 3) : (pushPullMask2 o).getLsbD 3 = false := by
  simp only [pushPullMask2, BitVec.getLsbD_append]; simp

theorem getLsbD_portLine8 (pff ext : Byte) (o : Vector PortOption 8) (n : Fin 8) :
    (portLine pff (pushPullMask8 o) ext).getLsbD n =
      (pff.getLsbD n && (decide (o[n] = .pushPull) || ext.getLsbD n)) := by
  rw [getLsbD_portLine, getLsbD_pushPullMask8]

theorem getLsbD_portLine2 (s : State) (n : Fin 3) :
    (portLine2 s).getLsbD n =
      (s.pff2.getLsbD n && (decide (s.cfg.option2[n] = .pushPull) || s.pins.ext2.getLsbD n)) := by
  rw [portLine2, getLsbD_portLine, getLsbD_pushPullMask2]

theorem getLsbD_three_portLine2 (s : State) :
    (portLine2 s).getLsbD 3 = (s.pff2.getLsbD 3 && s.pins.ext2.getLsbD 3) := by
  rw [portLine2, getLsbD_portLine, getLsbD_three_pushPullMask2, Bool.false_or]

theorem onPort1_present {s : State} (h : s.cfg.hasP1 = true) (k : State) : onPort1 s k = .next k := if_pos h

theorem onPort2_present {s : State} (h : s.cfg.hasP2 = true) (k : State) : onPort2 s k = .next k := if_pos h

theorem onPort1_absent {s : State} (h : s.cfg.hasP1 = false) (k : State) : onPort1 s k = .refused .portAbsent :=
  if_neg (Bool.eq_false_iff.mp h)

theorem onPort2_absent {s : State} (h : s.cfg.hasP2 = false) (k : State) : onPort2 s k = .refused .portAbsent :=
  if_neg (Bool.eq_false_iff.mp h)

/-- IN A,P2 where all four lines are port lines. -/
theorem exec_inAP2_lines {s : State} (h : s.cfg.hasP2 = true) (free : ¬(s.cfg.hasI2C = true ∧ s.i2c.eso = true)) :
    exec .inAP2 s = .next (s.setA (0#4 ++ portLine2 s)) := by
  have lines : ¬sdaTaken s = true := by simpa only [sdaTaken, Bool.and_eq_true] using free
  rw [exec, execInAP2, onPort2_present h, if_neg lines]

/-- IN A,P2 where SDA/P2.3 is the bus data line: bit 3 is drawn. -/
theorem exec_inAP2_bus {s : State} (h : s.cfg.hasP2 = true) (taken : s.cfg.hasI2C = true ∧ s.i2c.eso = true) :
    exec .inAP2 s = .next ((s.setA (0#4 ++ BitVec.ofBool (Config.freeBit s.draws)
      ++ (portLine2 s).extractLsb' 0 3)).setDraws (s.draws + 1)) := by
  have bus : sdaTaken s = true := by simpa only [sdaTaken, Bool.and_eq_true] using taken
  rw [exec, execInAP2, onPort2_present h, if_pos bus]

theorem toNat_zero_append_lt (x : BitVec 4) : (0#4 ++ x : Byte).toNat < 16 := by
  have fits := x.isLt
  rw [toNat_append_eq_add, BitVec.toNat_ofNat]
  omega

theorem toNat_zero_append_bit_lt (b : Bool) (x : BitVec 3) : (0#4 ++ BitVec.ofBool b ++ x : Byte).toNat < 16 := by
  have fits := x.isLt
  have bit := b.toNat_le
  rw [toNat_append_eq_add, toNat_append_eq_add, BitVec.toNat_ofNat, BitVec.toNat_ofBool]
  omega

theorem getLsbD_append_low {m n : Nat} (x : BitVec m) (y : BitVec n) {k : Nat} (h : k < n) :
    (x ++ y).getLsbD k = y.getLsbD k := by
  rw [BitVec.getLsbD_append, if_pos h]

/-- The lower three bits that IN A,P2 leaves in A are lines of the port. -/
theorem getLsbD_extract_portLine2 (s : State) (n : Fin 3) :
    ((portLine2 s).extractLsb' 0 3).getLsbD n =
      (s.pff2.getLsbD n && (decide (s.cfg.option2[n] = .pushPull) || s.pins.ext2.getLsbD n)) := by
  rw [BitVec.getLsbD_extractLsb', decide_eq_true n.isLt, Bool.true_and, Nat.zero_add, getLsbD_portLine2]

/-- Settles O33: the equation of R341 bit by bit; for Port 2 by whether SDA/P2.3 is a port line. -/
theorem portInput : Obligations.PortInput := by
  refine ⟨.of_encode_eq rfl rfl, .of_encode_eq rfl rfl, .of_encode_eq rfl rfl, fun s => ⟨?_, fun h => ?_, fun h => ?_,
    fun h => onPort1_absent h _, fun h => onPort2_absent h _⟩⟩
  · exact ⟨_, rfl, rfl, getLsbD_portLine8 _ _ _⟩
  · exact ⟨_, onPort1_present h _, rfl, getLsbD_portLine8 _ _ _⟩
  · by_cases taken : s.cfg.hasI2C = true ∧ s.i2c.eso = true
    · refine ⟨_, exec_inAP2_bus h taken, rfl, toNat_zero_append_bit_lt _ _, fun n => ?_, fun free => absurd taken free⟩
      exact (getLsbD_append_low _ _ n.isLt).trans (getLsbD_extract_portLine2 s n)
    · refine ⟨_, exec_inAP2_lines h taken, rfl, toNat_zero_append_lt _, fun n => ?_, fun _ => ⟨?_, rfl⟩⟩
      · exact (getLsbD_append_low _ _ (by omega)).trans (getLsbD_portLine2 s n)
      · exact (getLsbD_append_low _ _ (by omega)).trans (getLsbD_three_portLine2 s)

/-! ### The flip-flops of a port -/

theorem extractLsb'_four_eq_ofNat (v : Byte) : v.extractLsb' 0 4 = BitVec.ofNat 4 (v.toNat % 16) :=
  BitVec.eq_of_toNat_eq (by simp)

/-- Settles O34: an absent port refuses; on a port that is there each instruction writes its flip-flops, Port 2 with the low
four bits. -/
theorem portOutput : Obligations.PortOutput := by
  refine ⟨.of_encode_eq rfl rfl, .of_encode_eq rfl rfl, .of_encode_eq rfl rfl, fun d => ⟨.of_encode_eq rfl rfl,
    .of_encode_eq rfl rfl, .of_encode_eq rfl rfl, .of_encode_eq rfl rfl, .of_encode_eq rfl rfl, .of_encode_eq rfl rfl⟩, ?_⟩
  refine fun s d => ⟨rfl, rfl, rfl, fun h => ?_, fun h => ?_, fun h => ?_, fun h => ?_⟩
  · exact ⟨onPort1_present h _, onPort1_present h _, onPort1_present h _⟩
  · rw [← extractLsb'_four_eq_ofNat, ← extractLsb'_four_eq_ofNat]
    exact ⟨onPort2_present h _, onPort2_present h _, onPort2_present h _⟩
  · exact ⟨onPort1_absent h _, onPort1_absent h _, onPort1_absent h _⟩
  · exact ⟨onPort2_absent h _, onPort2_absent h _, onPort2_absent h _⟩

/-! ### Timer start, EN I and the power modes -/

/-- Settles O30: the request after EN I is an earlier one or the stored edge. -/
theorem startCounterAndEnableExternal : Obligations.StartCounterAndEnableExternal := by
  refine ⟨.of_encode_eq rfl rfl, .of_encode_eq rfl rfl, fun s => ⟨rfl, ?_⟩⟩
  have request : (s.eif || s.xlatch) = if s.xlatch then true else s.eif := by cases s.xlatch <;> simp
  rw [← request]
  rfl

/-- In Idle mode without an accepted interrupt one machine cycle passes. -/
theorem step_idle {s : State} (mode : s.mode = .idle) (reset : s.pins.reset = false) (accepted : acceptedSource s = none) :
    step s = .next (devicesStep 1 s) := by
  rw [step, cpuStep, reset, mode, accepted]
  rfl

/-- Settles O32: STOP by the level of INT/T0. -/
theorem powerModeInstructionsAndNop : Obligations.PowerModeInstructionsAndNop := by
  refine ⟨.of_encode_eq rfl rfl, .of_encode_eq rfl rfl, .of_encode_eq rfl rfl, fun s =>
    ⟨rfl, fun high => ?_, fun low => ?_, rfl, step_idle⟩⟩
  · rw [exec, execStop, high]; rfl
  · rw [exec, execStop, low]; rfl

/-! ### The state after reset -/

/-- Settles O41, field by field. -/
theorem resetState : Obligations.ResetState := by
  unfold Obligations.ResetState
  decide

/-- Settles O54: the flip-flops of the first two invariants are 0, the memories are empty. -/
theorem resetMeetsInvariants : Obligations.ResetMeetsInvariants := by
  obtain ⟨rom, ram, deriv⟩ := reset_memories_wf
  exact ⟨fun iip => (nomatch iip), ⟨rfl, fun eif => (nomatch eif), fun tif => (nomatch tif)⟩,
    ⟨rom, ram, deriv, rfl, rfl, rfl⟩, rfl⟩

end Sys2Proof.Machine

/-! What an instruction may change: the fields of the state that each instruction writes, the RAM locations, the bank bits of
PC and the flags (spec/10_state.md R33, R56, spec/20_memory.md R72, R73, spec/43_branch.md R190). -/

namespace Sys2Proof.Machine

/-! ### The fields that an instruction writes -/

/-- `s` with the fields that the instruction may write taken from `t`. -/
def footprint (i : Instr) (s t : State) : State :=
  match i with
  | .addARr _ | .addAInd _ | .addAImm _ | .addcARr _ | .addcAInd _ | .addcAImm _ => { s with a := t.a, cy := t.cy, ac := t.ac }
  | .anlARr _ | .anlAInd _ | .anlAImm _ | .orlARr _ | .orlAInd _ | .orlAImm _ | .xrlARr _ | .xrlAInd _ | .xrlAImm _
  | .incA | .decA | .clrA | .cplA | .rlA | .rrA | .swapA | .movARr _ | .movAInd _ | .movAImm _ | .movAPsw | .movpAA
  | .movAT | .inAP0 | .inAP1 | .movAS1 => { s with a := t.a }
  | .rlcA | .rrcA => { s with a := t.a, cy := t.cy }
  | .daA => { s with a := t.a, cy := t.cy, draws := t.draws }
  | .inAP2 => { s with a := t.a, draws := t.draws }
  | .clrC | .cplC => { s with cy := t.cy }
  | .movRrA _ | .movRrImm _ _ | .movIndA _ | .movIndImm _ _ | .incRr _ | .incInd _ | .decRr _ | .decInd _ =>
    { s with ram := t.ram }
  | .xchARr _ | .xchAInd _ | .xchdAInd _ => { s with ram := t.ram, a := t.a }
  | .djnzRr _ _ | .djnzInd _ _ => { s with ram := t.ram, pc := t.pc }
  | .jmp _ _ | .jmppA | .jb _ _ | .jc _ | .jnc _ | .jz _ | .jnz _ | .jt0 _ | .jnt0 _ | .jt1 _ | .jnt1 _ => { s with pc := t.pc }
  | .jtf _ | .jntf _ => { s with pc := t.pc, tf := t.tf }
  | .call _ _ => { s with ram := t.ram, sp := t.sp, pc := t.pc }
  | .ret => { s with sp := t.sp, pc := t.pc }
  | .retr => { s with
      sp := t.sp, pc := t.pc, cy := t.cy, ac := t.ac, rbs := t.rbs, iip := t.iip, retrShadow := t.retrShadow }
  | .movPswA => { s with ps := t.ps }
  | .selRb0 | .selRb1 => { s with rbs := t.rbs }
  | .selMb0 | .selMb1 | .selMb2 | .selMb3 => { s with mbff0 := t.mbff0, mbff1 := t.mbff1 }
  | .movTA => { s with t := t.t }
  | .strtCnt => { s with tmode := t.tmode, t := t.t }
  | .strtT => { s with tmode := t.tmode, pre := t.pre }
  | .stopTcnt => { s with tmode := t.tmode }
  | .enTcnti | .disTcnti => { s with ti := t.ti, tif := t.tif }
  | .enI | .disI => { s with ei := t.ei, xlatch := t.xlatch, eif := t.eif }
  | .enSi | .disSi => { s with si := t.si }
  | .stop | .idle => { s with mode := t.mode }
  | .outlP0A | .anlP0Imm _ | .orlP0Imm _ => { s with pff0 := t.pff0 }
  | .outlP1A | .anlP1Imm _ | .orlP1Imm _ => { s with pff1 := t.pff1 }
  | .outlP2A | .anlP2Imm _ | .orlP2Imm _ => { s with pff2 := t.pff2 }
  | .movADx _ => { s with a := t.a, deriv := t.deriv }
  | .movDxA _ | .anlDxA _ | .orlDxA _ => { s with deriv := t.deriv }
  | .movAS0 => { s with a := t.a, i2c := t.i2c }
  | .movS0A | .movS1A | .movS2A | .movS0Imm _ | .movS1Imm _ | .movS2Imm _ => { s with i2c := t.i2c }
  | .nop => s

/-- A branch changes PC alone, within the bank. -/
theorem branchIf_frame {c : Bool} {s t : State} {b : Byte} (h : branchIf c s b = .next t) :
    t = { s with pc := t.pc } ∧ t.pc.extractLsb' 11 2 = s.pc.extractLsb' 11 2 := by
  obtain ⟨-, rfl⟩ | ⟨-, -, rfl⟩ := branchIf_next.mp h
  · exact ⟨rfl, rfl⟩
  · refine ⟨rfl, BitVec.eq_of_toNat_eq ?_⟩
    have fits := b.isLt
    simp only [State.setPc_pc, inPage, BitVec.extractLsb'_toNat, toNat_append_eq_add, Nat.shiftRight_eq_div_pow]
    omega

/-- DJNZ through a pointer: a store, then a branch. -/
theorem exec_djnzInd_next {p : PtrNum} {addr : Byte} {s t : State} (h : exec (.djnzInd p addr) s = .next t) :
    (pointer s p).toNat < s.cfg.ramSize ∧ ∃ v,
      branchIf (decide (v ≠ 0x00)) (s.setRam (s.ram.write (pointer s p).toNat v)) addr = .next t := by
  obtain ⟨m, -, h⟩ := andThen_next.mp h
  obtain ⟨u, hu, h⟩ := andThen_next.mp h
  obtain ⟨inside, rfl⟩ := writeInd_next.mp hu
  exact ⟨inside, _, h⟩

/-- An exchange through a pointer: a store, and A takes a value. -/
theorem exchangeInd_next {p : PtrNum} {s t : State} {stored loaded : Byte → Byte}
    (h : (andThen (readInd s p) fun m => andThen (writeInd s p (stored m)) fun s' => .next (s'.setA (loaded m))) = .next t) :
    (pointer s p).toNat < s.cfg.ramSize ∧ ∃ v a, t = (s.setRam (s.ram.write (pointer s p).toNat v)).setA a := by
  obtain ⟨m, -, h⟩ := andThen_next.mp h
  obtain ⟨u, hu, h⟩ := andThen_next.mp h
  obtain ⟨inside, rfl⟩ := writeInd_next.mp hu
  cases h
  exact ⟨inside, _, _, rfl⟩

theorem exec_jmppA_next {s t : State} (h : exec .jmppA s = .next t) : ∃ b, branchIf true s b = .next t := by
  obtain ⟨b, -, h⟩ := andThen_next.mp h
  exact ⟨b, h⟩

theorem exec_anlDxA (x : Byte) (s : State) : exec (.anlDxA x) s = modifyDeriv s x fun v => v &&& s.a := rfl

theorem exec_orlDxA (x : Byte) (s : State) : exec (.orlDxA x) s = modifyDeriv s x fun v => v ||| s.a := rfl

/-- An instruction changes no field outside its footprint. -/
theorem exec_footprint {i : Instr} {s t : State} (h : exec i s = .next t) : t = footprint i s t := by
  cases i with
  | addAInd | addcAInd | anlAInd | orlAInd | xrlAInd | movAInd | movpAA =>
    obtain ⟨v, -, h⟩ := andThen_next.mp h
    cases h; rfl
  | daA =>
    simp only [exec, execDaA] at h
    split at h <;> (cases h; rfl)
  | movIndA | movIndImm => obtain ⟨-, rfl⟩ := writeInd_next.mp h; rfl
  | incInd | decInd => obtain ⟨-, rfl⟩ := modifyInd_next.mp h; rfl
  | xchAInd => obtain ⟨-, v, a, rfl⟩ := exchangeInd_next (stored := fun _ => s.a) (loaded := id) h; rfl
  | xchdAInd =>
    obtain ⟨-, v, a, rfl⟩ := exchangeInd_next (stored := fun m => m.extractLsb' 4 4 ++ s.a.extractLsb' 0 4)
      (loaded := fun m => s.a.extractLsb' 4 4 ++ m.extractLsb' 0 4) h
    rfl
  | djnzRr => obtain ⟨-, rfl⟩ | ⟨-, -, rfl⟩ := branchIf_next.mp h <;> rfl
  | djnzInd =>
    obtain ⟨-, v, h⟩ := exec_djnzInd_next h
    obtain ⟨-, rfl⟩ | ⟨-, -, rfl⟩ := branchIf_next.mp h <;> rfl
  | jb | jc | jnc | jz | jnz | jt0 | jnt0 | jt1 | jnt1 => exact (branchIf_frame h).1
  | jtf | jntf => obtain ⟨-, rfl⟩ | ⟨-, -, rfl⟩ := branchIf_next.mp h <;> rfl
  | jmppA => obtain ⟨b, h⟩ := exec_jmppA_next h; exact (branchIf_frame h).1
  | ret => obtain ⟨-, rfl⟩ := exec_ret_next.mp h; rfl
  | inAP1 | outlP1A | anlP1Imm | orlP1Imm => obtain ⟨-, rfl⟩ := onPort1_next.mp h; rfl
  | inAP2 => obtain ⟨-, rfl⟩ := onPort2_next.mp h; split <;> rfl
  | outlP2A | anlP2Imm | orlP2Imm => obtain ⟨-, rfl⟩ := onPort2_next.mp h; rfl
  | movADx =>
    obtain ⟨r, hr, h⟩ := andThen_next.mp h
    obtain ⟨-, rfl⟩ := derivRead_next.mp hr
    cases h; rfl
  | movDxA => obtain ⟨-, rfl⟩ := derivWrite_next.mp h; rfl
  | anlDxA => rw [exec_anlDxA] at h; obtain ⟨-, -, rfl⟩ := modifyDeriv_next.mp h; rfl
  | orlDxA => rw [exec_orlDxA] at h; obtain ⟨-, -, rfl⟩ := modifyDeriv_next.mp h; rfl
  | movAS0 | movAS1 => obtain ⟨-, h⟩ := onI2C_next.mp h; cases h; rfl
  | movS0A | movS0Imm => obtain ⟨-, rfl⟩ := storeS0_next.mp h; rfl
  | movS1A | movS1Imm => obtain ⟨-, c, -, rfl⟩ := storeS1_next.mp h; rfl
  | movS2A | movS2Imm => obtain ⟨-, rfl⟩ := storeS2_next.mp h; rfl
  | _ => cases h; rfl

/-! ### What no instruction writes -/

theorem exec_cfg {i : Instr} {s t : State} (h : exec i s = .next t) : t.cfg = s.cfg := by
  rw [exec_footprint h]; cases i <;> rfl

theorem exec_rom {i : Instr} {s t : State} (h : exec i s = .next t) : t.rom = s.rom := by
  rw [exec_footprint h]; cases i <;> rfl

/-! ### The bank bits -/

/-- The bank bits of PC change by a long transfer alone: an in-page branch keeps them, the others keep PC. -/
theorem exec_bank {i : Instr} {s t : State} (h : exec i s = .next t)
    (changed : t.pc.extractLsb' 11 2 ≠ s.pc.extractLsb' 11 2) :
    (∃ n b, i = .jmp n b) ∨ (∃ n b, i = .call n b) ∨ i = .ret ∨ i = .retr := by
  have fp := exec_footprint h
  cases i with
  | jmp n b => exact .inl ⟨n, b, rfl⟩
  | call n b => exact .inr (.inl ⟨n, b, rfl⟩)
  | ret => exact .inr (.inr (.inl rfl))
  | retr => exact .inr (.inr (.inr rfl))
  | djnzRr | jb | jc | jnc | jz | jnz | jt0 | jnt0 | jt1 | jnt1 | jtf | jntf => exact absurd (branchIf_frame h).2 changed
  | djnzInd => obtain ⟨-, v, h⟩ := exec_djnzInd_next h; exact absurd (branchIf_frame h).2 changed
  | jmppA => obtain ⟨b, h⟩ := exec_jmppA_next h; exact absurd (branchIf_frame h).2 changed
  | _ => exact absurd (congrArg (fun u => u.pc.extractLsb' 11 2) fp) changed

/-- Settles O27. -/
theorem bankChangesOnlyByLongTransfers : Obligations.BankChangesOnlyByLongTransfers :=
  fun _ _ _ h changed => exec_bank h changed

/-! ### Flags -/

/-- The additions, the instructions that write AC but for RETR. -/
def IsAddition (i : Instr) : Prop :=
  (∃ r, i = .addARr r) ∨ (∃ p, i = .addAInd p) ∨ (∃ d, i = .addAImm d) ∨ (∃ r, i = .addcARr r)
    ∨ (∃ p, i = .addcAInd p) ∨ ∃ d, i = .addcAImm d

section
variable {i : Instr} {s t : State}

theorem exec_cy (h : exec i s = .next t) (changed : t.cy ≠ s.cy) :
    IsAddition i ∨ i ∈ [Instr.daA, .rlcA, .rrcA, .clrC, .cplC, .retr] := by
  have fp := exec_footprint h
  cases i with
  | addARr | addAInd | addAImm | addcARr | addcAInd | addcAImm => simp [IsAddition]
  | daA | rlcA | rrcA | clrC | cplC | retr => exact .inr (by decide)
  | _ => exact absurd (congrArg State.cy fp) changed

theorem exec_ac (h : exec i s = .next t) (changed : t.ac ≠ s.ac) : IsAddition i ∨ i = .retr := by
  have fp := exec_footprint h
  cases i with
  | addARr | addAInd | addAImm | addcARr | addcAInd | addcAImm => simp [IsAddition]
  | retr => exact .inr rfl
  | _ => exact absurd (congrArg State.ac fp) changed

theorem exec_rbs (h : exec i s = .next t) (changed : t.rbs ≠ s.rbs) : i ∈ [Instr.selRb0, .selRb1, .retr] := by
  have fp := exec_footprint h
  cases i with
  | selRb0 | selRb1 | retr => decide
  | _ => exact absurd (congrArg State.rbs fp) changed

theorem exec_ps (h : exec i s = .next t) (changed : t.ps ≠ s.ps) : i = .movPswA := by
  have fp := exec_footprint h
  cases i with
  | movPswA => rfl
  | _ => exact absurd (congrArg State.ps fp) changed

theorem exec_sp (h : exec i s = .next t) (changed : t.sp ≠ s.sp) : (∃ n b, i = .call n b) ∨ i ∈ [Instr.ret, .retr] := by
  have fp := exec_footprint h
  cases i with
  | call n b => exact .inl ⟨n, b, rfl⟩
  | ret | retr => exact .inr (by decide)
  | _ => exact absurd (congrArg State.sp fp) changed

theorem exec_tf (h : exec i s = .next t) (changed : t.tf ≠ s.tf) : (∃ b, i = .jtf b) ∨ ∃ b, i = .jntf b := by
  have fp := exec_footprint h
  cases i with
  | jtf b => exact .inl ⟨b, rfl⟩
  | jntf b => exact .inr ⟨b, rfl⟩
  | _ => exact absurd (congrArg State.tf fp) changed

theorem exec_mbff (h : exec i s = .next t) (changed : (t.mbff0, t.mbff1) ≠ (s.mbff0, s.mbff1)) :
    i ∈ [Instr.selMb0, .selMb1, .selMb2, .selMb3] := by
  have fp := exec_footprint h
  cases i with
  | selMb0 | selMb1 | selMb2 | selMb3 => decide
  | _ => exact absurd (congrArg (fun u => (u.mbff0, u.mbff1)) fp) changed

/-- The external enable and the two flip-flops it governs. -/
theorem exec_external (h : exec i s = .next t) (changed : (t.ei, t.xlatch, t.eif) ≠ (s.ei, s.xlatch, s.eif)) :
    i ∈ [Instr.enI, .disI] := by
  have fp := exec_footprint h
  cases i with
  | enI | disI => decide
  | _ => exact absurd (congrArg (fun u => (u.ei, u.xlatch, u.eif)) fp) changed

theorem exec_timerInterrupt (h : exec i s = .next t) (changed : (t.ti, t.tif) ≠ (s.ti, s.tif)) :
    i ∈ [Instr.enTcnti, .disTcnti] := by
  have fp := exec_footprint h
  cases i with
  | enTcnti | disTcnti => decide
  | _ => exact absurd (congrArg (fun u => (u.ti, u.tif)) fp) changed

theorem exec_si (h : exec i s = .next t) (changed : t.si ≠ s.si) : i ∈ [Instr.enSi, .disSi] := by
  have fp := exec_footprint h
  cases i with
  | enSi | disSi => decide
  | _ => exact absurd (congrArg State.si fp) changed

theorem exec_iip (h : exec i s = .next t) (changed : t.iip ≠ s.iip) : i = .retr := by
  have fp := exec_footprint h
  cases i with
  | retr => rfl
  | _ => exact absurd (congrArg State.iip fp) changed

end

/-- Settles O39, flag by flag. -/
theorem flagWriters : Obligations.FlagWriters := by
  intro i s t h
  refine ⟨exec_cy h, exec_ac h, exec_rbs h, exec_ps h, exec_sp h, exec_tf h, fun changed => exec_mbff h fun same => ?_,
    fun changed => exec_external h fun same => ?_, fun changed => exec_timerInterrupt h fun same => ?_, exec_si h, exec_iip h⟩
  all_goals simp_all

end Sys2Proof.Machine

/-! Data memory and the derivative registers under an instruction (spec/20_memory.md R72, R73). -/

namespace Sys2Proof.Machine

/-! ### Several writes -/

/-- Writes at several addresses, in order. -/
def Memory.writeAll (m : Memory) (ws : List (Nat × Byte)) : Memory := ws.foldl (fun m w => m.write w.1 w.2) m

theorem Memory.writeAll_cons (m : Memory) (w : Nat × Byte) (ws : List (Nat × Byte)) :
    m.writeAll (w :: ws) = (m.write w.1 w.2).writeAll ws := rfl

theorem Memory.read_writeAll_other {b : Nat} : ∀ {ws : List (Nat × Byte)} (m : Memory),
    b ∉ ws.map Prod.fst → (m.writeAll ws).read b = m.read b
  | [], _, _ => rfl
  | w :: ws, m, h => by
    obtain ⟨head, tail⟩ := not_or.mp (mt List.mem_cons.mpr h)
    rw [writeAll_cons, read_writeAll_other _ tail, read_write_other head]

theorem Memory.writeAll_wf : ∀ {m : Memory} (ws : List (Nat × Byte)), m.wf = true → (m.writeAll ws).wf = true
  | _, [], h => h
  | _, _ :: ws, h => writeAll_wf ws (write_wf h _ _)

theorem Memory.writeAll_below {n : Nat} : ∀ {m : Memory} (ws : List (Nat × Byte)),
    (∀ a ∈ ws.map Prod.fst, a < n) → m.below n = true → (m.writeAll ws).below n = true
  | _, [], _, h => h
  | _, w :: ws, hws, h =>
    writeAll_below ws (fun a ha => hws a (List.mem_cons_of_mem _ ha)) (write_below (hws w.1 List.mem_cons_self) w.2 h)

/-! ### Data memory -/

/-- An instruction writes data memory at the locations it stores to, once each. -/
theorem exec_ram {i : Instr} {s t : State} (h : exec i s = .next t) :
    ∃ ws : List (Nat × Byte), ws.map Prod.fst = storeAddrs i s ∧ t.ram = s.ram.writeAll ws := by
  cases i with
  | movRrA | movRrImm | xchARr | incRr | decRr => cases h; exact ⟨[(_, _)], rfl, rfl⟩
  | movIndA | movIndImm => obtain ⟨-, rfl⟩ := writeInd_next.mp h; exact ⟨[(_, _)], rfl, rfl⟩
  | incInd | decInd => obtain ⟨-, rfl⟩ := modifyInd_next.mp h; exact ⟨[(_, _)], rfl, rfl⟩
  | xchAInd =>
    obtain ⟨-, v, a, rfl⟩ := exchangeInd_next (stored := fun _ => s.a) (loaded := id) h
    exact ⟨[(_, _)], rfl, rfl⟩
  | xchdAInd =>
    obtain ⟨-, v, a, rfl⟩ := exchangeInd_next (stored := fun m => m.extractLsb' 4 4 ++ s.a.extractLsb' 0 4)
      (loaded := fun m => s.a.extractLsb' 4 4 ++ m.extractLsb' 0 4) h
    exact ⟨[(_, _)], rfl, rfl⟩
  | djnzRr => exact ⟨[(_, _)], rfl, congrArg State.ram (branchIf_frame h).1⟩
  | djnzInd =>
    obtain ⟨-, v, h⟩ := exec_djnzInd_next h
    exact ⟨[(_, _)], rfl, congrArg State.ram (branchIf_frame h).1⟩
  | call => cases h; exact ⟨[(_, _), (_, _)], rfl, rfl⟩
  | _ => exact ⟨[], rfl, (congrArg State.ram (exec_footprint h)).trans rfl⟩

/-- Settles O38. -/
theorem dataMemoryFrame : Obligations.DataMemoryFrame := by
  intro i s t h b other
  obtain ⟨ws, addrs, ram⟩ := exec_ram h
  rw [ram, Memory.read_writeAll_other _ (addrs ▸ other)]

theorem regAddr_lt (rbs : Bool) (r : RegNum) : regAddr rbs r < 32 := by
  have fits := r.isLt
  unfold regAddr
  split <;> omega

theorem hiAddr_lt (c : Config) (n : BitVec 3) : hiAddr c n < 32 := by
  have fits := n.isLt
  rw [hiAddr_eq]
  split <;> omega

theorem loAddr_lt (c : Config) (n : BitVec 3) : loAddr c n < 32 := by
  have fits := n.isLt
  rw [loAddr_eq]
  split <;> omega

/-- An instruction that goes on stores within data memory: registers and stack lie below 32, and a pointer beyond RAM_SIZE
stops it. -/
theorem storeAddrs_lt {i : Instr} {s t : State} (h : exec i s = .next t) (size : 32 ≤ s.cfg.ramSize) :
    ∀ a ∈ storeAddrs i s, a < s.cfg.ramSize := by
  cases i with
  | movRrA | movRrImm | xchARr | incRr | decRr | djnzRr =>
    exact List.forall_mem_singleton.mpr ((regAddr_lt _ _).trans_le size)
  | movIndA | movIndImm => exact List.forall_mem_singleton.mpr (writeInd_next.mp h).1
  | incInd | decInd => exact List.forall_mem_singleton.mpr (modifyInd_next.mp h).1
  | xchAInd => exact List.forall_mem_singleton.mpr (exchangeInd_next (stored := fun _ => s.a) (loaded := id) h).1
  | xchdAInd =>
    exact List.forall_mem_singleton.mpr (exchangeInd_next
      (stored := fun m => m.extractLsb' 4 4 ++ s.a.extractLsb' 0 4)
      (loaded := fun m => s.a.extractLsb' 4 4 ++ m.extractLsb' 0 4) h).1
  | djnzInd => exact List.forall_mem_singleton.mpr (exec_djnzInd_next h).1
  | call =>
    exact List.forall_mem_cons.mpr ⟨(hiAddr_lt _ _).trans_le size,
      List.forall_mem_singleton.mpr ((loAddr_lt _ _).trans_le size)⟩
  | _ => exact fun a ha => (nomatch ha)

/-! ### The derivative registers -/

/-- The derivative registers are in canonical form and at 8-bit addresses. -/
def DerivCanonical (d : DerivState) : Prop := d.regs.wf = true ∧ d.regs.below 256 = true

theorem DerivCanonical.apply {d : DerivState} (h : DerivCanonical d) (e : DerivEffect) : DerivCanonical (e.apply d) :=
  ⟨DerivEffect.apply_wf h.1 e, DerivEffect.apply_below h.2 e⟩

/-- An instruction changes the derivative logic by effects of DERIV. -/
theorem exec_derivCanonical {i : Instr} {s t : State} (h : exec i s = .next t) (hs : DerivCanonical s.deriv) :
    DerivCanonical t.deriv := by
  cases i with
  | movADx =>
    obtain ⟨r, hr, h⟩ := andThen_next.mp h
    obtain ⟨-, rfl⟩ := derivRead_next.mp hr
    cases h
    exact hs.apply _
  | movDxA => obtain ⟨-, rfl⟩ := derivWrite_next.mp h; exact hs.apply _
  | anlDxA => rw [exec_anlDxA] at h; obtain ⟨-, -, rfl⟩ := modifyDeriv_next.mp h; exact (hs.apply _).apply _
  | orlDxA => rw [exec_orlDxA] at h; obtain ⟨-, -, rfl⟩ := modifyDeriv_next.mp h; exact (hs.apply _).apply _
  | _ => rw [congrArg State.deriv (exec_footprint h)]; exact hs

end Sys2Proof.Machine

/-! What the device agents can do, event by event, and the one induction that the invariants of a step need. -/

namespace Sys2Proof.Machine

/-! ### One machine cycle and one event -/

/-- The serial interface changes by an event of its own alone. -/
theorem i2cEvent_setI2c (s : State) (f : I2C → I2C) : ∃ c, i2cEvent s f = s.setI2c c := by
  unfold i2cEvent
  split
  · exact ⟨_, rfl⟩
  · exact ⟨s.i2c, rfl⟩

/-- The prescaler counts, and T may. -/
theorem timerCycle_cases (s : State) :
    ∃ p, timerCycle s = { s with pre := p } ∨ timerCycle s = countT { s with pre := p } := by
  unfold timerCycle
  split_ifs
  · exact ⟨_, .inr rfl⟩
  · exact ⟨_, .inl rfl⟩
  · exact ⟨s.pre, .inl rfl⟩

/-- All that an event can do: the levels of the pins, a step of the serial interface, a step of the derivative logic, a qualified
edge on INT/T0, a count of T. -/
theorem applyEvent_cases (n : Nat) (s : State) (e : EnvEvent) :
    (∃ p high, (applyEvent n s e).2 = { s with pins := p, t0High := high })
      ∨ (∃ c, (applyEvent n s e).2 = s.setI2c c)
      ∨ (∃ d : DerivEffect, (applyEvent n s e).2 = s.setDeriv (d.apply s.deriv))
      ∨ (∃ p high, (applyEvent n s e).2 = { latchExtEdge s with pins := p, t0High := high })
      ∨ ∃ p, (applyEvent n s e).2 = countT (s.setPins p) := by
  cases e with
  | resetLevel | t1Level | port0Ext | port1Ext | port2Ext => exact .inl ⟨_, s.t0High, rfl⟩
  | t0Level => exact .inl ⟨_, _, rfl⟩
  | extEdge =>
    simp only [applyEvent, extEdge]
    split
    · exact .inr (.inr (.inr (.inl ⟨_, _, rfl⟩)))
    · exact .inl ⟨s.pins, s.t0High, rfl⟩
  | t1Edge =>
    simp only [applyEvent, t1Edge]
    split_ifs
    · exact .inl ⟨s.pins, s.t0High, rfl⟩
    · exact .inr (.inr (.inr (.inr ⟨_, rfl⟩)))
    · exact .inl ⟨_, s.t0High, rfl⟩
  | i2cStart | i2cArbitrationLost | i2cStop | i2cFirstByte | i2cByteDone | i2cBit => simp only [applyEvent]; exact .inr (.inl (i2cEvent_setI2c s _))
  | derivStep i =>
    refine .inr (.inr (.inl ?_))
    rcases derivStep_cases s i with still | stepped
    · exact ⟨s.deriv.unchanged, still⟩
    · exact ⟨_, stepped⟩

/-! ### A property that the device agents keep -/

section
variable {P : State → Prop}

theorem applyEvents_keeps (event : ∀ n s e, P s → P (applyEvent n s e).2) :
    ∀ (es : List EnvEvent) (n : Nat) (s : State), P s → P (applyEvents n s es)
  | [], _, _, h => h
  | e :: es, n, s, h => applyEvents_keeps event es _ _ (event n s e h)

theorem environment_keeps (schedule : ∀ s es, P s → P { s with env := es })
    (event : ∀ n s e, P s → P (applyEvent n s e).2) (n : Nat) (s : State) (h : P s) : P (environment n s) := by
  unfold environment
  split
  · exact h
  · exact applyEvents_keeps event _ _ _ (schedule s _ h)

theorem timerCycles_keeps (timer : ∀ s, P s → P (timerCycle s)) : ∀ (n : Nat) (s : State), P s → P (timerCycles n s)
  | 0, _, h => h
  | n + 1, s, h => timerCycles_keeps timer n _ (timer s h)

/-- `P` is kept by whatever the device agents do. -/
structure KeptByDevices (P : State → Prop) : Prop where
  timer : ∀ s, P s → P (timerCycle s)
  event : ∀ n s e, P s → P (applyEvent n s e).2
  schedule : ∀ s es, P s → P { s with env := es }

theorem KeptByDevices.environment (keeps : KeptByDevices P) (n : Nat) {s : State} (h : P s) : P (environment n s) :=
  environment_keeps keeps.schedule keeps.event n s h

theorem KeptByDevices.devicesStep (keeps : KeptByDevices P) (n : Nat) {s : State} (h : P s) : P (devicesStep n s) :=
  keeps.environment n (timerCycles_keeps keeps.timer n s h)

/-- What does not look at the fields of the device agents is kept by them. -/
theorem KeptByDevices.of_devicesOnly (keeps : ∀ s u, DevicesOnly s u → P s → P u) : KeptByDevices P where
  timer s := keeps s _ (timerCycle_devicesOnly s)
  event n s e := keeps s _ (applyEvent_devicesOnly n s e)
  schedule s es := keeps s { s with env := es } rfl

/-- The effects that machine cycles and events are made of, one by one. -/
theorem KeptByDevices.of_effects (prescaler : ∀ s p, P s → P { s with pre := p }) (count : ∀ s, P s → P (countT s))
    (levels : ∀ s p high, P s → P { s with pins := p, t0High := high }) (serial : ∀ s c, P s → P (s.setI2c c))
    (derivative : ∀ s (d : DerivEffect), P s → P (s.setDeriv (d.apply s.deriv)))
    (edge : ∀ s, P s → P (latchExtEdge s)) (schedule : ∀ s es, P s → P { s with env := es }) : KeptByDevices P where
  timer s h := by
    obtain ⟨p, still | counted⟩ := timerCycle_cases s
    · rw [still]; exact prescaler s p h
    · rw [counted]; exact count _ (prescaler s p h)
  event n s e h := by
    rcases applyEvent_cases n s e with
      ⟨p, high, changed⟩ | ⟨c, changed⟩ | ⟨d, changed⟩ | ⟨p, high, changed⟩ | ⟨p, changed⟩
    · rw [changed]; exact levels s p high h
    · rw [changed]; exact serial s c h
    · rw [changed]; exact derivative s d h
    · rw [changed]; exact levels _ p high (edge s h)
    · rw [changed]; exact count _ (levels s p s.t0High h)
  schedule := schedule

/-- A property that the device agents keep holds after a step where it holds after what the CPU does in it. -/
theorem step_keeps {s t : State} (h : step s = .next t) (devices : KeptByDevices P) (before : P s)
    (reset : P (doReset s)) (wake : P (wakeFromStop s)) (entry : ∀ src, P (takeInterrupt s src))
    (instruction : ∀ i p w, p.extractLsb' 11 2 = s.pc.extractLsb' 11 2 → exec i (s.setPc p) = .next w →
      P (settleShadow i w)) : P t := by
  rcases step_next h with ⟨-, rfl⟩ | ⟨-, -, -, rfl⟩ | ⟨-, -, -, rfl⟩ | ⟨-, -, -, rfl⟩ | ⟨src, -, -, -, rfl⟩ | ⟨-, -, -, run⟩
  · exact devices.environment 0 reset
  · exact devices.environment 0 before
  · exact devices.environment 0 wake
  · exact devices.devicesStep 1 before
  · exact devices.devicesStep _ (entry src)
  · obtain ⟨i, u, w, fetched, executed, rfl⟩ := runInstruction_next.mp run
    obtain ⟨p, bank, rfl⟩ := fetch_pc fetched
    exact devices.devicesStep _ (instruction i p w bank executed)

end

end Sys2Proof.Machine

/-! The invariants of a step: program memory and the device (spec/20_memory.md R88), the frozen bank bits (spec/43_branch.md
R192), the request flip-flops (spec/60_exceptions.md R311, R313) and the form of the memories (spec/20_memory.md R70 to R72). -/

namespace Sys2Proof.Machine

/-! ### Program memory and the device -/

/-- `u` has the program and the device of `s`. -/
def SameProgram (s u : State) : Prop := u.rom = s.rom ∧ u.cfg = s.cfg

theorem sameProgram_keptByDevices (s : State) : KeptByDevices (SameProgram s) :=
  .of_devicesOnly fun _ _ only h => ⟨(congrArg State.rom only).trans h.1, (congrArg State.cfg only).trans h.2⟩

theorem takeInterrupt_sameProgram (s : State) (src : IntSource) : SameProgram s (takeInterrupt s src) := by
  rw [takeInterrupt_frame]; exact ⟨rfl, rfl⟩

theorem step_sameProgram {s t : State} (h : step s = .next t) : SameProgram s t :=
  step_keeps h (sameProgram_keptByDevices s) ⟨rfl, rfl⟩ ⟨rfl, rfl⟩ ⟨rfl, rfl⟩ (takeInterrupt_sameProgram s)
    fun _ _ _ _ executed => ⟨(exec_rom executed).trans rfl, (exec_cfg executed).trans rfl⟩

theorem runs_sameProgram {n : Nat} {s t : State} (h : Runs n s t) : SameProgram s t := by
  induction n generalizing s with
  | zero => rw [runs_zero.mp h]; exact ⟨rfl, rfl⟩
  | succ n ih =>
    obtain ⟨u, first, rest⟩ := runs_succ.mp h
    obtain ⟨rom, cfg⟩ := step_sameProgram first
    obtain ⟨rom', cfg'⟩ := ih rest
    exact ⟨rom'.trans rom, cfg'.trans cfg⟩

/-- Settles O55, by induction on the number of steps. -/
theorem programMemoryConstant : Obligations.ProgramMemoryConstant := by
  intro n s t h
  obtain ⟨rom, cfg⟩ := runs_sameProgram h
  exact ⟨fun p => by rw [romByte, romByte, rom], rom, cfg⟩

/-! ### The frozen bank bits -/

theorem bankFrozen_keptByDevices : KeptByDevices BankFrozen :=
  .of_devicesOnly fun s u only h => by rw [DevicesOnly] at only; rw [only]; exact h

theorem bankFrozen_of_iip {s : State} (h : s.iip = false) : BankFrozen s :=
  fun iip => absurd (h.symm.trans iip) Bool.false_ne_true

theorem longTarget_bank (s : State) (page : PageNum) (addr : Byte) :
    (longTarget s page addr).extractLsb' 11 2 = bankBits s := by
  have fits := addr.isLt
  have fits' := page.isLt
  apply BitVec.eq_of_toNat_eq
  have bits := (bankBits s).isLt
  simp only [longTarget, BitVec.extractLsb'_toNat, toNat_append_eq_add, Nat.shiftRight_eq_div_pow]
  omega

theorem bankBits_frozen {s : State} (h : s.iip = true) : bankBits s = 0#2 := if_pos h

/-- An instruction that leaves IIP = 1 found it so, and leaves the bank bits 00: it keeps them, or it is a long transfer, to bank
0 while IIP = 1. -/
theorem exec_bankFrozen {i : Instr} {s t : State} (h : exec i s = .next t) (frozen : BankFrozen s) : BankFrozen t := by
  intro after
  have not_retr : i ≠ .retr := by rintro rfl; cases h; cases after
  have before : s.iip = true := by
    by_contra changed
    exact not_retr (exec_iip h fun same => changed (same ▸ after))
  by_cases same : t.pc.extractLsb' 11 2 = s.pc.extractLsb' 11 2
  · exact same.trans (frozen before)
  · obtain ⟨n, b, rfl⟩ | ⟨n, b, rfl⟩ | rfl | rfl := exec_bank h same
    · cases h; exact (longTarget_bank s n b).trans (bankBits_frozen before)
    · cases h; exact (longTarget_bank s n b).trans (bankBits_frozen before)
    · obtain ⟨allowed, rfl⟩ := exec_ret_next.mp h
      exact not_not.mp fun other => allowed ⟨before, other⟩
    · exact absurd rfl not_retr

theorem vector_bank (src : IntSource) : src.vector.extractLsb' 11 2 = 0#2 := by cases src <;> decide

theorem takeInterrupt_bankFrozen (s : State) (src : IntSource) : BankFrozen (takeInterrupt s src) := by
  intro _
  rw [takeInterrupt_frame]
  exact vector_bank src

/-- Settles O51: the prologue keeps the bank, an entry loads a vector of bank 0, and a reset clears IIP. -/
theorem bankFrozenKept : Obligations.BankFrozenKept := by
  intro s t frozen h
  refine step_keeps h bankFrozen_keptByDevices frozen (bankFrozen_of_iip rfl) frozen (takeInterrupt_bankFrozen s) ?_
  intro i p w bank executed
  have kept : BankFrozen w := exec_bankFrozen executed fun iip => bank.trans (frozen iip)
  exact kept

/-! ### The request flip-flops -/

theorem countT_requestsCoherent {s : State} (h : RequestsCoherent s) : RequestsCoherent (countT s) := by
  obtain ⟨external, request, timer⟩ := h
  refine ⟨external, request, fun overflow => ?_⟩
  rcases (Bool.or_eq_true _ _).mp overflow with stored | counted
  · exact timer stored
  · exact ((Bool.and_eq_true _ _).mp counted).1

theorem latchExtEdge_requestsCoherent {s : State} (h : RequestsCoherent s) : RequestsCoherent (latchExtEdge s) := by
  obtain ⟨external, request, timer⟩ := h
  refine ⟨?_, ?_, timer⟩
  · unfold latchExtEdge
    cases latch : s.cfg.extLatchWhenDisabled <;> cases enable : s.ei <;> simp_all
  · intro edge
    rcases (Bool.or_eq_true _ _).mp edge with stored | enabled
    · exact request stored
    · exact enabled

theorem requestsCoherent_keptByDevices : KeptByDevices RequestsCoherent :=
  .of_effects (fun _ _ h => h) (fun _ => countT_requestsCoherent) (fun _ _ _ h => h) (fun _ _ h => h) (fun _ _ h => h)
    (fun _ => latchExtEdge_requestsCoherent) fun _ _ h => h

theorem takeInterrupt_requestsCoherent {s : State} (src : IntSource) (h : RequestsCoherent s) :
    RequestsCoherent (takeInterrupt s src) := by
  obtain ⟨external, request, timer⟩ := h
  rw [takeInterrupt_frame]
  cases src with
  | external => exact ⟨by simp, by simp, by simpa using timer⟩
  | serial => exact ⟨by simpa using external, by simpa using request, by simpa using timer⟩
  | timer => exact ⟨by simpa using external, by simpa using request, by simp⟩

/-- The four instructions that write an enable keep the relations; no other writes an enable or a flip-flop. -/
theorem exec_requestsCoherent {i : Instr} {s t : State} (h : exec i s = .next t) (hs : RequestsCoherent s) :
    RequestsCoherent t := by
  have device := exec_cfg h
  by_cases external : (t.ei, t.xlatch, t.eif) = (s.ei, s.xlatch, s.eif)
  · by_cases timer : (t.ti, t.tif) = (s.ti, s.tif)
    · simp only [Prod.mk.injEq] at external timer
      obtain ⟨ei, xlatch, eif⟩ := external
      obtain ⟨ti, tif⟩ := timer
      rw [RequestsCoherent, device, ei, xlatch, eif, ti, tif]
      exact hs
    · obtain ⟨latch, request, overflow⟩ := hs
      have writer := exec_timerInterrupt h timer
      simp only [List.mem_cons, List.not_mem_nil, or_false] at writer
      rcases writer with rfl | rfl
      · cases h; exact ⟨latch, request, fun _ => rfl⟩
      · cases h; exact ⟨latch, request, fun tif => (nomatch tif)⟩
  · obtain ⟨latch, request, overflow⟩ := hs
    have writer := exec_external h external
    simp only [List.mem_cons, List.not_mem_nil, or_false] at writer
    rcases writer with rfl | rfl
    · cases h
      refine ⟨?_, fun _ => rfl, overflow⟩
      cases enabled : s.cfg.extLatchWhenDisabled <;> cases stored : s.xlatch <;> simp_all
    · cases h
      refine ⟨?_, fun eif => (nomatch eif), overflow⟩
      simp

/-- Settles O52. -/
theorem requestsCoherentKept : Obligations.RequestsCoherentKept := by
  intro s t hs h
  refine step_keeps h requestsCoherent_keptByDevices hs ?_ (latchExtEdge_requestsCoherent hs)
    (fun src => takeInterrupt_requestsCoherent src hs) ?_
  · refine ⟨?_, fun eif => (nomatch eif), fun tif => (nomatch tif)⟩
    simp [doReset, State.reset]
  · intro i p w _ executed
    have kept : RequestsCoherent w := exec_requestsCoherent executed hs
    exact kept

/-! ### The form of the memories -/

theorem memoryCanonical_iff (s : State) :
    MemoryCanonical s ↔ (s.rom.wf = true ∧ s.rom.below s.cfg.romSize = true)
      ∧ (s.ram.wf = true ∧ s.ram.below s.cfg.ramSize = true) ∧ DerivCanonical s.deriv := by
  unfold MemoryCanonical DerivCanonical
  tauto

theorem derivCanonical_keptByDevices : KeptByDevices fun u => DerivCanonical u.deriv :=
  .of_effects (fun _ _ h => h) (fun _ h => h) (fun _ _ _ h => h) (fun _ _ h => h) (fun _ d h => DerivCanonical.apply h d)
    (fun _ h => h) fun _ _ h => h

theorem freeMemory_below (size k : Nat) : (freeMemory size k).below size = true := by
  rw [Memory.below, List.all_eq_true]
  intro c hc
  obtain ⟨a, ha, hcell⟩ := List.mem_filterMap.mp hc
  split at hcell
  · cases hcell
  · cases hcell; exact decide_eq_true (List.mem_range.mp ha)

/-- Data memory is canonical and within the device. -/
def RamCanonical (s : State) : Prop := s.ram.wf = true ∧ s.ram.below s.cfg.ramSize = true

theorem ramCanonical_keptByDevices : KeptByDevices RamCanonical :=
  .of_devicesOnly fun s u only h => by rw [DevicesOnly] at only; rw [only]; exact h

theorem takeInterrupt_ramCanonical {s : State} (src : IntSource) (size : 32 ≤ s.cfg.ramSize) (h : RamCanonical s) :
    RamCanonical (takeInterrupt s src) := by
  rw [RamCanonical, takeInterrupt_ram, (takeInterrupt_sameProgram s src).2]
  exact ⟨push_wf h.1 _, Memory.write_below ((loAddr_lt _ _).trans_le size) _
    (Memory.write_below ((hiAddr_lt _ _).trans_le size) _ h.2)⟩

theorem exec_ramCanonical {i : Instr} {s t : State} (h : exec i s = .next t) (size : 32 ≤ s.cfg.ramSize)
    (hs : RamCanonical s) : RamCanonical t := by
  obtain ⟨ws, addrs, ram⟩ := exec_ram h
  have within := storeAddrs_lt h size
  rw [RamCanonical, ram, exec_cfg h]
  exact ⟨Memory.writeAll_wf ws hs.1, Memory.writeAll_below ws (addrs ▸ within) hs.2⟩

theorem step_ramCanonical {s t : State} (h : step s = .next t) (size : 32 ≤ s.cfg.ramSize) (hs : RamCanonical s) :
    RamCanonical t := by
  refine step_keeps h ramCanonical_keptByDevices hs ⟨freeMemory_wf _ _, freeMemory_below _ _⟩ hs
    (fun src => takeInterrupt_ramCanonical src size hs) fun i p w _ executed => ?_
  have kept : RamCanonical w := exec_ramCanonical executed size hs
  exact kept

theorem step_derivCanonical {s t : State} (h : step s = .next t) (hs : DerivCanonical s.deriv) : DerivCanonical t.deriv := by
  refine step_keeps h derivCanonical_keptByDevices hs (derivAtReset_wf _ _) hs
    (fun src => by rw [takeInterrupt_frame]; exact hs) fun i p w _ executed => ?_
  have kept : DerivCanonical w.deriv := exec_derivCanonical executed hs
  exact kept

/-- Settles O53, memory by memory: program memory stays, data memory is written by the stores and by the stack, the derivative
registers by the effects of DERIV. -/
theorem memoryCanonicalKept : Obligations.MemoryCanonicalKept := by
  intro s t device canonical h
  have size : 32 ≤ s.cfg.ramSize := by
    simp only [Config.wf, Bool.and_eq_true, decide_eq_true_eq] at device
    omega
  obtain ⟨program, data, derivative⟩ := (memoryCanonical_iff s).mp canonical
  obtain ⟨rom, cfg⟩ := step_sameProgram h
  refine (memoryCanonical_iff t).mpr ⟨?_, step_ramCanonical h size data, step_derivCanonical h derivative⟩
  rw [rom, cfg]
  exact program

end Sys2Proof.Machine

/-! The single level of interrupts and its hold-off (spec/60_exceptions.md R314, R320), and the reduced power modes (R373 to
R376). -/

namespace Sys2Proof.Machine

/-! ### What a step can lose -/

/-- With no interrupt accepted and no reset, a property that the device agents and the wake-up keep is lost to an instruction
alone, the one whose opcode stands at PC. -/
theorem step_loses {P : State → Prop} {s t : State} (devices : KeptByDevices P) (wake : P s → P (wakeFromStop s))
    (closed : acceptedSource s = none) (reset : s.pins.reset = false) (h : step s = .next t) (before : P s) (lost : ¬P t) :
    s.mode = .normal ∧ ∃ i p w, romByte s s.pc = opcodeOf i ∧ exec i (s.setPc p) = .next w ∧ ¬P (settleShadow i w) := by
  rcases step_next h with ⟨active, -⟩ | ⟨-, -, -, rfl⟩ | ⟨-, -, -, rfl⟩ | ⟨-, -, -, rfl⟩ | ⟨src, -, -, accepted, -⟩
    | ⟨-, mode, -, run⟩
  · exact absurd (reset.symm.trans active) Bool.false_ne_true
  · exact absurd (devices.environment 0 before) lost
  · exact absurd (devices.environment 0 (wake before)) lost
  · exact absurd (devices.devicesStep 1 before) lost
  · cases closed.symm.trans accepted
  · obtain ⟨i, u, w, fetched, executed, rfl⟩ := runInstruction_next.mp run
    have opcode := opcodeOf_fetch fetched
    obtain ⟨p, -, rfl⟩ := fetch_pc fetched
    exact ⟨mode, i, p, w, opcode.symm, executed, fun kept => lost (devices.devicesStep _ kept)⟩

theorem iip_keptByDevices : KeptByDevices fun u => u.iip = true :=
  .of_devicesOnly fun _ _ only h => (congrArg State.iip only).trans h

/-- The device agents clear neither of the two stored requests: an edge sets EIF, a count TIF. -/
theorem eif_keptByDevices : KeptByDevices fun u => u.eif = true :=
  .of_effects (fun _ _ h => h) (fun _ h => h) (fun _ _ _ h => h) (fun _ _ h => h) (fun _ _ h => h)
    (fun _ h => Bool.or_eq_true_iff.mpr (.inl h)) fun _ _ h => h

@[inherit_doc eif_keptByDevices]
theorem tif_keptByDevices : KeptByDevices fun u => u.tif = true :=
  .of_effects (fun _ _ h => h) (fun _ h => Bool.or_eq_true_iff.mpr (.inl h)) (fun _ _ _ h => h) (fun _ _ h => h)
    (fun _ _ h => h) (fun _ h => h) fun _ _ h => h

/-- EN I stores a request more, so a stored external request is lost to DIS I alone. -/
theorem exec_clears_eif {i : Instr} {s t : State} (h : exec i s = .next t) (before : s.eif = true) (lost : ¬t.eif = true) :
    i = .disI := by
  have writer := exec_external h fun same => lost ((congrArg (·.2.2) same).trans before)
  simp only [List.mem_cons, List.not_mem_nil, or_false] at writer
  rcases writer with rfl | rfl
  · cases h; exact absurd (Bool.or_eq_true_iff.mpr (.inl before)) lost
  · rfl

theorem exec_clears_tif {i : Instr} {s t : State} (h : exec i s = .next t) (before : s.tif = true) (lost : ¬t.tif = true) :
    i = .disTcnti := by
  have writer := exec_timerInterrupt h fun same => lost ((congrArg Prod.snd same).trans before)
  simp only [List.mem_cons, List.not_mem_nil, or_false] at writer
  rcases writer with rfl | rfl
  · cases h; exact absurd before lost
  · rfl

/-- Settles O44. -/
theorem singleLevel : Obligations.SingleLevel := by
  intro s t iip reset h
  have closed : acceptedSource s = none := acceptedSource_closed (.inl iip)
  refine ⟨closed, fun lost => ?_, fun eif lost => ?_, fun tif lost => ?_⟩
  · obtain ⟨mode, i, p, w, opcode, executed, cleared⟩ :=
      step_loses iip_keptByDevices id closed reset h iip (Bool.eq_false_iff.mp lost)
    have retr : i = .retr := exec_iip executed fun same => cleared (same.trans iip)
    exact ⟨mode, opcode.trans (congrArg opcodeOf retr)⟩
  · obtain ⟨mode, i, p, w, opcode, executed, cleared⟩ :=
      step_loses eif_keptByDevices (fun h => Bool.or_eq_true_iff.mpr (.inl h)) closed reset h eif (Bool.eq_false_iff.mp lost)
    have disI : i = .disI := exec_clears_eif executed eif cleared
    exact ⟨mode, opcode.trans (congrArg opcodeOf disI)⟩
  · obtain ⟨mode, i, p, w, opcode, executed, cleared⟩ :=
      step_loses tif_keptByDevices id closed reset h tif (Bool.eq_false_iff.mp lost)
    have disTcnti : i = .disTcnti := exec_clears_tif executed tif cleared
    exact ⟨mode, opcode.trans (congrArg opcodeOf disTcnti)⟩

/-- Settles O45: the hold-off stays on after RETR alone, which sets it. -/
theorem interruptHoldOff : Obligations.InterruptHoldOff := by
  refine ⟨fun s holdOff reset mode => ⟨reset, mode, acceptedSource_closed (.inr holdOff)⟩, fun s t executing h => ?_⟩
  rw [step_executing executing] at h
  obtain ⟨i, u, w, fetched, executed, rfl⟩ := runInstruction_next.mp h
  have shadow : (devicesStep i.cycles (settleShadow i w)).retrShadow = (w.retrShadow && decide (i = .retr)) :=
    congrArg State.retrShadow (devicesStep_devicesOnly _ _)
  rw [shadow, Bool.and_eq_true, decide_eq_true_eq, ← opcodeOf_fetch fetched]
  constructor
  · rintro ⟨-, rfl⟩; rfl
  · intro opcode
    obtain rfl : i = .retr := eq_of_opcodeOf_eq rfl opcode
    cases executed
    exact ⟨rfl, rfl⟩

/-! ### Idle mode -/

/-- No interrupt can be accepted: one is in progress, or none is enabled and none is requested. -/
def NoneAcceptable (s : State) : Prop :=
  s.iip = true ∨ (s.ei = false ∧ s.si = false ∧ s.ti = false ∧ s.eif = false ∧ s.tif = false)

theorem idleUntilReset_iff (s : State) :
    idleUntilReset s = true ↔
      s.mode = .idle ∧ s.pins.reset = false ∧ noResetAhead s = true ∧ NoneAcceptable s := by
  simp [idleUntilReset, NoneAcceptable, and_assoc]

theorem acceptedSource_of_noneAcceptable {s : State} (h : NoneAcceptable s) : acceptedSource s = none := by
  rcases h with iip | ⟨-, si, -, eif, tif⟩
  · exact acceptedSource_closed (.inl iip)
  · simp [acceptedSource, pendingSource, requests, si, eif, tif]

/-- Without its enable an overflow requests nothing. -/
theorem countT_noneAcceptable {s : State} (h : NoneAcceptable s) : NoneAcceptable (countT s) := by
  refine h.imp id ?_
  rintro ⟨ei, si, ti, eif, tif⟩
  exact ⟨ei, si, ti, eif, by simp [countT, ti, tif]⟩

/-- Without its enable an edge requests nothing. -/
theorem latchExtEdge_noneAcceptable {s : State} (h : NoneAcceptable s) : NoneAcceptable (latchExtEdge s) := by
  refine h.imp id ?_
  rintro ⟨ei, si, ti, eif, tif⟩
  exact ⟨ei, si, ti, by simp [latchExtEdge, ei, eif], tif⟩

theorem noneAcceptable_keptByDevices : KeptByDevices NoneAcceptable :=
  .of_effects (fun _ _ h => h) (fun _ => countT_noneAcceptable) (fun _ _ _ h => h) (fun _ _ h => h) (fun _ _ h => h)
    (fun _ => latchExtEdge_noneAcceptable) fun _ _ h => h

theorem timerCycle_pins_env (s : State) : (timerCycle s).pins = s.pins ∧ (timerCycle s).env = s.env := by
  obtain ⟨p, still | counted⟩ := timerCycle_cases s
  · rw [still]; exact ⟨rfl, rfl⟩
  · rw [counted]; exact ⟨rfl, rfl⟩

theorem timerCycles_pins_env : ∀ (n : Nat) (s : State), (timerCycles n s).pins = s.pins ∧ (timerCycles n s).env = s.env
  | 0, _ => ⟨rfl, rfl⟩
  | n + 1, s => by
    obtain ⟨pins, env⟩ := timerCycle_pins_env s
    obtain ⟨pins', env'⟩ := timerCycles_pins_env n (timerCycle s)
    exact ⟨pins'.trans pins, env'.trans env⟩

theorem applyEvent_env (n : Nat) (s : State) (e : EnvEvent) : (applyEvent n s e).2.env = s.env := by
  rcases applyEvent_cases n s e with
    ⟨p, high, levels⟩ | ⟨c, serial⟩ | ⟨d, derivative⟩ | ⟨p, high, edge⟩ | ⟨p, counted⟩
  · rw [levels]
  · rw [serial]; rfl
  · rw [derivative]; rfl
  · rw [edge]; rfl
  · rw [counted]; rfl

theorem applyEvents_env : ∀ (es : List EnvEvent) (n : Nat) (s : State), (applyEvents n s es).env = s.env
  | [], _, _ => rfl
  | e :: es, n, s => (applyEvents_env es _ _).trans (applyEvent_env n s e)

/-- The RESET pin changes by the event that names it alone. -/
theorem applyEvent_reset (n : Nat) (s : State) {e : EnvEvent} (h : e ≠ .resetLevel true) (inactive : s.pins.reset = false) :
    (applyEvent n s e).2.pins.reset = false := by
  cases e with
  | resetLevel b => exact Bool.eq_false_iff.mpr fun active => h (congrArg EnvEvent.resetLevel active)
  | i2cStart | i2cArbitrationLost | i2cStop | i2cFirstByte | i2cByteDone | i2cBit =>
    simp only [applyEvent, i2cEvent]; split <;> exact inactive
  | extEdge => simp only [applyEvent, extEdge]; split <;> exact inactive
  | t1Edge => simp only [applyEvent, t1Edge]; split_ifs <;> exact inactive
  | derivStep => simp only [applyEvent, derivStep]; split <;> exact inactive
  | t0Level | t1Level | port0Ext | port1Ext | port2Ext => exact inactive

theorem applyEvents_reset : ∀ (es : List EnvEvent) (n : Nat) (s : State), (∀ e ∈ es, e ≠ .resetLevel true) →
    s.pins.reset = false → (applyEvents n s es).pins.reset = false
  | [], _, _, _, inactive => inactive
  | e :: es, n, s, h, inactive =>
    applyEvents_reset es _ _ (fun e he => h e (List.mem_cons_of_mem _ he))
      (applyEvent_reset n s (h e List.mem_cons_self) inactive)

theorem noResetAhead_iff (s : State) :
    noResetAhead s = true ↔ ∀ es ∈ s.env, ∀ e ∈ es, e ≠ .resetLevel true := by
  simp [noResetAhead]

/-- The events of a moment without a reset leave the RESET pin inactive, and the rest of the schedule without a reset. -/
theorem environment_noReset (n : Nat) {s : State} (inactive : s.pins.reset = false) (ahead : noResetAhead s = true) :
    (environment n s).pins.reset = false ∧ noResetAhead (environment n s) = true := by
  rw [noResetAhead_iff] at ahead ⊢
  unfold environment
  split
  · exact ⟨inactive, ahead⟩
  · rename_i es rest schedule
    rw [schedule] at ahead
    obtain ⟨now, later⟩ := List.forall_mem_cons.mp ahead
    rw [applyEvents_env]
    exact ⟨applyEvents_reset es n _ now inactive, later⟩

theorem devicesStep_noReset (n : Nat) {s : State} (inactive : s.pins.reset = false) (ahead : noResetAhead s = true) :
    (devicesStep n s).pins.reset = false ∧ noResetAhead (devicesStep n s) = true := by
  obtain ⟨pins, env⟩ := timerCycles_pins_env n s
  refine environment_noReset n (by rw [pins]; exact inactive) ?_
  rw [noResetAhead, env]
  exact ahead

/-- A step of the stuck Idle mode is one machine cycle of the device agents, and stays in it. -/
theorem step_idleUntilReset {s : State} (h : idleUntilReset s = true) :
    step s = .next (devicesStep 1 s) ∧ idleUntilReset (devicesStep 1 s) = true := by
  obtain ⟨mode, inactive, ahead, stuck⟩ := (idleUntilReset_iff s).mp h
  refine ⟨step_idle mode inactive (acceptedSource_of_noneAcceptable stuck), (idleUntilReset_iff _).mpr ?_⟩
  obtain ⟨inactive', ahead'⟩ := devicesStep_noReset 1 inactive ahead
  exact ⟨(congrArg State.mode (devicesStep_devicesOnly 1 s)).trans mode, inactive', ahead',
    noneAcceptable_keptByDevices.devicesStep 1 stuck⟩

theorem run_idleUntilReset (n : Nat) {s : State} (h : idleUntilReset s = true) :
    ∃ t, Runs n s t ∧ idleUntilReset t = true ∧ DevicesOnly s t := by
  induction n generalizing s with
  | zero => exact ⟨s, runs_zero.mpr rfl, h, .refl s⟩
  | succ n ih =>
    obtain ⟨first, stuck⟩ := step_idleUntilReset h
    obtain ⟨t, run, stuck', only⟩ := ih stuck
    exact ⟨t, runs_succ.mpr ⟨_, first, run⟩, stuck', (devicesStep_devicesOnly 1 s).trans only⟩

/-- Settles O48, by induction on the number of steps: each is one machine cycle of the device agents, which own nothing that the
statement names. -/
theorem idleStuckUntilReset : Obligations.IdleStuckUntilReset := by
  intro n s h
  obtain ⟨t, run, stuck, only⟩ := run_idleUntilReset n h
  have mode : t.mode = .idle := ((idleUntilReset_iff t).mp stuck).1
  refine ⟨t, run, stuck, mode, ?_⟩
  rw [DevicesOnly] at only
  rw [only]
  exact ⟨rfl, rfl, rfl, rfl, rfl, rfl, rfl, rfl, rfl, rfl⟩

/-! ### Stop mode -/

/-- `u` differs from `s` in the levels of the pins, and the record of INT/T0, alone. -/
def LevelsOnly (s u : State) : Prop := u = { s with pins := u.pins, t0High := u.t0High }

theorem LevelsOnly.trans {s u w : State} (h1 : LevelsOnly s u) (h2 : LevelsOnly u w) : LevelsOnly s w := by
  unfold LevelsOnly at *
  rw [h2, h1]

/-- With the oscillator stopped no device agent steps: an event changes a level at most. -/
theorem applyEvent_stop (n : Nat) {s : State} (e : EnvEvent) (h : s.mode = .stop) : LevelsOnly s (applyEvent n s e).2 := by
  cases e with
  | resetLevel | t1Level | port0Ext | port1Ext | port2Ext | t0Level => rfl
  | extEdge => rw [applyEvent, extEdge, if_neg fun running => running.1 h]; rfl
  | t1Edge => rw [applyEvent, if_pos (.inr h)]; rfl
  | i2cStart | i2cArbitrationLost | i2cStop | i2cFirstByte | i2cByteDone | i2cBit =>
    simp only [applyEvent, i2cEvent, i2cActive, h]
    simp [LevelsOnly]
  | derivStep => rw [applyEvent, derivStep, if_neg fun running => running.2 h]; rfl

theorem applyEvents_stop : ∀ (es : List EnvEvent) (n : Nat) (s : State), s.mode = .stop → LevelsOnly s (applyEvents n s es)
  | [], _, _, _ => rfl
  | e :: es, n, s, h => by
    have first := applyEvent_stop n e h
    exact first.trans (applyEvents_stop es _ _ ((congrArg State.mode first).trans h))

/-- Settles O49. -/
theorem stopModeStandsStill : Obligations.StopModeStandsStill := by
  intro s mode reset high
  refine ⟨environment 0 s, ?_, ?_⟩
  · rw [step, cpuStep, reset, mode, high]; rfl
  · unfold environment
    split
    · rename_i ended
      rw [ended, List.tail_nil, ← ended]
    · rename_i es rest schedule
      rw [schedule]
      exact applyEvents_stop es 0 { s with env := rest } mode

theorem latchExtEdge_eq (s : State) :
    latchExtEdge s = { s with
      xlatch := if s.ei || s.cfg.extLatchWhenDisabled then true else s.xlatch
      eif := if s.ei then true else s.eif } := by
  unfold latchExtEdge
  cases s.ei <;> cases s.cfg.extLatchWhenDisabled <;> simp

/-- Settles O50. -/
theorem stopModeWakeUp : Obligations.StopModeWakeUp := by
  intro s mode reset low
  have holdOff : (s.retrShadow || s.ei) = if s.ei then true else s.retrShadow := by cases s.ei <;> simp
  rw [step, cpuStep, reset, mode, low, ← holdOff]
  change Host.Outcome.next (environment 0 (wakeFromStop s)) = _
  rw [wakeFromStop, latchExtEdge_eq]

end Sys2Proof.Machine

/-! The pins that count and request: T1 (spec/60_exceptions.md R331, R332) and INT/T0 (R310, R311). -/

namespace Sys2Proof.Machine

/-! ### T1 -/

/-- `k` counted edges on T1. -/
def edged (k : Nat) (s : State) : State := s.setPins { s.pins with t1 := s.pins.t1 || decide (0 < k) }

theorem edged_zero (s : State) : edged 0 s = s := by
  simp [edged, State.setPins]

theorem edged_t1 (k : Nat) (s : State) : edged k (s.setPins { s.pins with t1 := true }) = edged (k + 1) s := by
  simp [edged, State.setPins]

theorem applyEvents_t1Edge_none (m : Nat) {n : Nat} {s : State} (h : n = 0 ∨ s.mode = .stop) :
    applyEvents n s (List.replicate m .t1Edge) = s := by
  induction m with
  | zero => rfl
  | succ m ih => rw [List.replicate_succ, applyEvents, applyEvent, if_pos h, ih]

/-- An edge within the allowance happens. -/
theorem applyEvents_t1Edge_succ (m n : Nat) {s : State} (running : s.mode ≠ .stop) :
    applyEvents (n + 1) s (List.replicate (m + 1) .t1Edge) = applyEvents n (t1Edge s) (List.replicate m .t1Edge) := by
  rw [List.replicate_succ, applyEvents, applyEvent, if_neg (by simpa using running)]
  rfl

theorem applyEvents_t1Edge_counter (m n : Nat) {s : State} (running : s.mode ≠ .stop) (counter : s.tmode = .counter) :
    applyEvents n s (List.replicate m .t1Edge) = counted (min m n) (edged (min m n) s) := by
  induction m generalizing n s with
  | zero => rw [Nat.zero_min, edged_zero, counted_zero]; rfl
  | succ m ih =>
    cases n with
    | zero => rw [applyEvents_t1Edge_none _ (.inl rfl), Nat.min_zero, edged_zero, counted_zero]
    | succ n =>
      calc applyEvents (n + 1) s (List.replicate (m + 1) .t1Edge)
          = applyEvents n (t1Edge s) (List.replicate m .t1Edge) := applyEvents_t1Edge_succ m n running
        _ = applyEvents n (countT (s.setPins { s.pins with t1 := true })) (List.replicate m .t1Edge) := by
            rw [t1Edge, if_pos counter]
        _ = counted (min m n) (countT (edged (min m n) (s.setPins { s.pins with t1 := true }))) := ih n running counter
        _ = counted (min (m + 1) (n + 1)) (edged (min (m + 1) (n + 1)) s) := by
            rw [counted_countT, edged_t1, Nat.add_min_add_right]

theorem applyEvents_t1Edge_uncounted (m n : Nat) {s : State} (running : s.mode ≠ .stop) (other : s.tmode ≠ .counter) :
    applyEvents n s (List.replicate m .t1Edge) = edged (min m n) s := by
  induction m generalizing n s with
  | zero => rw [Nat.zero_min, edged_zero]; rfl
  | succ m ih =>
    cases n with
    | zero => rw [applyEvents_t1Edge_none _ (.inl rfl), Nat.min_zero, edged_zero]
    | succ n =>
      calc applyEvents (n + 1) s (List.replicate (m + 1) .t1Edge)
          = applyEvents n (t1Edge s) (List.replicate m .t1Edge) := applyEvents_t1Edge_succ m n running
        _ = applyEvents n (s.setPins { s.pins with t1 := true }) (List.replicate m .t1Edge) := by
            rw [t1Edge, if_neg other]
        _ = edged (min m n) (s.setPins { s.pins with t1 := true }) := ih n running other
        _ = edged (min (m + 1) (n + 1)) s := by rw [edged_t1, Nat.add_min_add_right]

/-- Settles O57, by induction on the number of edges. -/
theorem eventCounts : Obligations.EventCounts :=
  fun n m _ => ⟨applyEvents_t1Edge_counter m n, applyEvents_t1Edge_uncounted m n,
    fun stopped => applyEvents_t1Edge_none m (.inr stopped)⟩

/-! ### INT/T0 -/

/-- Settles O58. -/
theorem externalEdge : Obligations.ExternalEdge := by
  intro n s
  refine ⟨fun running high => ?_, fun stopped => ?_, fun record low => ?_⟩
  · rw [applyEvent, extEdge, if_pos ⟨running, high⟩, latchExtEdge_eq]
  · rw [applyEvent, extEdge, if_neg fun edge => edge.1 stopped]
  · rw [applyEvent, extEdge, if_neg (by simp [record, low])]

end Sys2Proof.Machine

/-! The derivative logic (spec/46_io.md R263 to R267, spec/60_exceptions.md R368): for every DERIV, and for a map of registers and
ports; and the state that a reset event leaves (spec/10_state.md R54). -/

namespace Sys2Proof.Machine

/-! ### Accesses, for every DERIV -/

theorem derivRead_defined {s : State} {x : Byte} (h : s.cfg.derivReadable x = true) :
    derivRead s x = .next (((derivModel s.cfg).read s.deriv x).1,
      s.setDeriv (((derivModel s.cfg).read s.deriv x).2.apply s.deriv)) :=
  if_pos h

theorem derivRead_refused {s : State} {x : Byte} (h : s.cfg.derivReadable x = false) : derivRead s x = .refused .derivAccess :=
  if_neg (Bool.eq_false_iff.mp h)

theorem derivWrite_refused {s : State} {x v : Byte} (h : s.cfg.derivWritable x = false) :
    derivWrite s x v = .refused .derivAccess :=
  if_neg (Bool.eq_false_iff.mp h)

theorem modifyDeriv_refused {s : State} {x : Byte} (f : Byte → Byte)
    (h : (s.cfg.derivReadable x && s.cfg.derivWritable x) = false) : modifyDeriv s x f = .refused .derivAccess := by
  cases readable : s.cfg.derivReadable x with
  | false => rw [modifyDeriv, derivRead_refused readable, andThen_of_refused]
  | true =>
    have writable : s.cfg.derivWritable x = false := by simpa [readable] using h
    rw [modifyDeriv, derivRead_defined readable, andThen_of_next]
    exact derivWrite_refused writable

theorem exec_movADx {s : State} {x : Byte} (h : s.cfg.derivReadable x = true) :
    exec (.movADx x) s = .next { s with
      a := ((derivModel s.cfg).read s.deriv x).1
      deriv := ((derivModel s.cfg).read s.deriv x).2.apply s.deriv } := by
  rw [exec, execMovADx, derivRead_defined h]; rfl

theorem exec_movDxA {s : State} {x : Byte} (h : s.cfg.derivWritable x = true) :
    exec (.movDxA x) s = .next { s with deriv := ((derivModel s.cfg).write s.deriv x s.a).apply s.deriv } :=
  derivWrite_next.mpr ⟨h, rfl⟩

/-- A read and a write in one instruction: the write finds the logic as the read left it. -/
theorem modifyDeriv_defined {s : State} {x : Byte} (f : Byte → Byte)
    (h : (s.cfg.derivReadable x && s.cfg.derivWritable x) = true) :
    let r := (derivModel s.cfg).read s.deriv x
    modifyDeriv s x f = .next { s with
      deriv := ((derivModel s.cfg).write (r.2.apply s.deriv) x (f r.1)).apply (r.2.apply s.deriv) } := by
  obtain ⟨readable, writable⟩ := (Bool.and_eq_true _ _).mp h
  exact modifyDeriv_next.mpr ⟨readable, writable, rfl⟩

theorem applyEvent_derivStep_running (n : Nat) {s : State} (i : DerivInput) (has : s.cfg.hasDeriv = true)
    (running : s.mode ≠ .stop) :
    applyEvent n s (.derivStep i) =
      (n, { s with deriv := ((derivModel s.cfg).step s.deriv i).apply s.deriv }) := by
  rw [applyEvent, derivStep, if_pos ⟨has, running⟩]; rfl

theorem applyEvent_derivStep_still (n : Nat) {s : State} (i : DerivInput) (h : s.cfg.hasDeriv = false ∨ s.mode = .stop) :
    applyEvent n s (.derivStep i) = (n, s) := by
  rw [applyEvent, derivStep, if_neg]
  rintro ⟨has, running⟩
  exact h.elim (fun absent => Bool.false_ne_true (absent.symm.trans has)) running

/-! ### A map of registers and ports -/

section
variable {c : Config} {map : List DerivRange} {x : Byte} {g : DerivRange}

theorem derivModel_registers (logic : c.derivLogic = .registers map) : derivModel c = registersModel map := by
  rw [derivModel, logic]

theorem isPortLine_iff : isPortLine g = true ↔ ∃ f p, g.kind = .portLine f p := by
  unfold isPortLine
  split <;> simp_all

theorem derivReadable_iff (has : c.hasDeriv = true) (logic : c.derivLogic = .registers map)
    (range : derivRange map x = some g) : c.derivReadable x = true ↔ g.access ≠ .writeOnly := by
  simp [Config.derivReadable, has, derivModel_registers logic, registersModel, range]

theorem derivWritable_iff (has : c.hasDeriv = true) (logic : c.derivLogic = .registers map)
    (range : derivRange map x = some g) :
    c.derivWritable x = true ↔ g.access ≠ .readOnly ∧ ¬∃ f p, g.kind = .portLine f p := by
  rw [← isPortLine_iff]
  simp [Config.derivWritable, has, derivModel_registers logic, registersModel, range]

theorem registersModel_read (range : derivRange map x = some g) (d : DerivState) :
    (registersModel map).read d x =
      (derivValue g d.regs x, { d.unchanged with request := requestAfter g.onRead d.request }) := by
  simp only [registersModel, registersRead, range]

theorem registersModel_write (range : derivRange map x = some g) (d : DerivState) (v : Byte) :
    (registersModel map).write d x v =
      { d.unchanged with writes := [(x, v &&& g.mask)], request := requestAfter g.onWrite d.request } := by
  simp only [registersModel, registersWrite, range]

/-- The bits that the address gives: those that are there, of the register or of the lines, and the fixed ones. -/
theorem getLsbD_derivValue (g : DerivRange) (regs : Memory) (x : Byte) {n : Nat} (h : n < 8) :
    (derivValue g regs x).getLsbD n =
      if g.mask.getLsbD n then
        match g.kind with
        | .register | .portFlipFlop => (regs.read x.toNat).getLsbD n
        | .portLine flipFlop pushPull =>
          (regs.read flipFlop.toNat).getLsbD n && (pushPull.getLsbD n || (regs.read x.toNat).getLsbD n)
      else g.unused.getLsbD n := by
  simp only [derivValue, BitVec.getLsbD_or, BitVec.getLsbD_and, BitVec.getLsbD_not, h, decide_true, Bool.true_and]
  cases g.mask.getLsbD n <;> cases g.kind <;> simp [getLsbD_portLine]

end

/-- The outcome of a write of `v` to the register at `x`, and of the request that the access leaves. -/
theorem stores_write {s : State} (hwf : s.deriv.regs.wf = true) (x v : Byte) (request : Bool) :
    ∃ t, (.next { s with deriv := { s.deriv with regs := s.deriv.regs.write x.toNat v, request := request } } : Result State)
        = .next t ∧ t.deriv.regs.read x.toNat = v
      ∧ (∀ y, y ≠ x.toNat → t.deriv.regs.read y = s.deriv.regs.read y)
      ∧ t = { s with deriv := { s.deriv with regs := t.deriv.regs, request := request } } :=
  ⟨_, rfl, Memory.read_write_same hwf _ _, fun _ other => Memory.read_write_other other _ _, rfl⟩

/-- A read and a write of a register of the map: what the read gives, changed, is stored, and each access does to the request what
the map says. -/
theorem modifyDeriv_registers {s : State} {x : Byte} {map : List DerivRange} {g : DerivRange} (f : Byte → Byte)
    (logic : s.cfg.derivLogic = .registers map) (range : derivRange map x = some g)
    (may : (s.cfg.derivReadable x && s.cfg.derivWritable x) = true) :
    modifyDeriv s x f = .next { s with
      deriv := { s.deriv with
        regs := s.deriv.regs.write x.toNat (f (derivValue g s.deriv.regs x) &&& g.mask)
        request := requestAfter g.onWrite (requestAfter g.onRead s.deriv.request) } } := by
  rw [modifyDeriv_defined f may, derivModel_registers logic, registersModel_read range, registersModel_write range]
  rfl

/-- Settles O35: for every DERIV by the definitions of the accesses, for a map by what its range answers. -/
theorem derivativeInstructions : Obligations.DerivativeInstructions := by
  refine ⟨fun x => ⟨.of_encode_eq rfl rfl, .of_encode_eq rfl rfl, .of_encode_eq rfl rfl, .of_encode_eq rfl rfl⟩, ?_, ?_⟩
  · intro s x deriv r wrote may
    refine ⟨exec_movADx, exec_movDxA, fun h =>
      ⟨modifyDeriv_defined (fun v => v &&& s.a) h, modifyDeriv_defined (fun v => v ||| s.a) h⟩, fun h => ?_,
      derivWrite_refused, fun h =>
      ⟨modifyDeriv_refused (fun v => v &&& s.a) h, modifyDeriv_refused (fun v => v ||| s.a) h⟩, fun h => ?_, fun n i => ?_⟩
    · rw [exec, execMovADx, derivRead_refused h, andThen_of_refused]
    · simp [Config.derivReadable, Config.derivWritable, h]
    · exact ⟨applyEvent_derivStep_running n i, applyEvent_derivStep_still n i⟩
  · intro s x map g has logic range hwf cell gives after stores isLine
    have model := derivModel_registers logic
    have readable := derivReadable_iff has logic range
    have writable := derivWritable_iff has logic range
    have value : gives (derivValue g s.deriv.regs x) := fun n h => getLsbD_derivValue g s.deriv.regs x h
    have after_eq : after = requestAfter := by funext q b; cases q <;> rfl
    have may (access : g.access = .readWrite) (line : ¬isLine) :
        (s.cfg.derivReadable x && s.cfg.derivWritable x) = true :=
      (Bool.and_eq_true _ _).mpr ⟨readable.mpr (by simp [access]), writable.mpr ⟨by simp [access], line⟩⟩
    refine ⟨readable, writable, fun access => ⟨_, exec_movADx (readable.mpr access), ?_, ?_⟩, fun access line => ?_,
      fun access line => ⟨derivValue g s.deriv.regs x, value, ?_, ?_⟩⟩
    · rw [model, registersModel_read range]
      exact value
    · rw [model, registersModel_read range, after_eq]
      rfl
    · rw [exec_movDxA (writable.mpr ⟨access, line⟩), model, registersModel_write range, after_eq]
      exact stores_write hwf x _ _
    · rw [exec_anlDxA, modifyDeriv_registers _ logic range (may access line), after_eq]
      exact stores_write hwf x _ _
    · rw [exec_orlDxA, modifyDeriv_registers _ logic range (may access line), after_eq]
      exact stores_write hwf x _ _

/-! ### The state after a reset event -/

/-- The last of several writes at an address decides, so where all of them write one value, that is what is read. -/
theorem Memory.read_writeAll_same {a : Nat} {v : Byte} : ∀ {m : Memory} {ws : List (Nat × Byte)}, m.wf = true →
    (∀ w ∈ ws, w.1 = a → w.2 = v) → (a ∈ ws.map Prod.fst ∨ m.read a = v) → (m.writeAll ws).read a = v
  | m, [], _, _, h => h.resolve_left (List.not_mem_nil)
  | m, w :: ws, hwf, same, h => by
    obtain ⟨first, others⟩ := List.forall_mem_cons.mp same
    rw [Memory.writeAll_cons]
    refine Memory.read_writeAll_same (Memory.write_wf hwf w.1 w.2) others ?_
    by_cases here : w.1 = a
    · exact .inr (by rw [← here, Memory.read_write_same hwf, first here])
    · rcases h with listed | before
      · exact .inl ((List.mem_cons.mp listed).resolve_left (Ne.symm here))
      · exact .inr (by rw [Memory.read_write_other (Ne.symm here), before])

theorem DerivEffect.apply_regs (e : DerivEffect) (d : DerivState) :
    (e.apply d).regs = d.regs.writeAll (e.writes.map fun w => (w.1.toNat, w.2)) := by
  rw [Memory.writeAll, List.foldl_map]; rfl

theorem mem_registersReset_writes {map : List DerivRange} {d : DerivState} {w : Byte × Byte} :
    w ∈ (registersReset map d).writes ↔ ∃ g, derivRange map w.1 = some g
      ∧ w.2 = if isPortLine g then d.regs.read w.1.toNat else g.resetValue &&& g.mask := by
  simp only [registersReset, List.mem_filterMap, List.mem_range, Option.map_eq_some_iff]
  constructor
  · rintro ⟨a, ha, g, range, rfl⟩
    have same : (BitVec.ofNat 8 a).toNat = a := Nat.mod_eq_of_lt ha
    exact ⟨g, range, by rw [same]⟩
  · rintro ⟨g, range, value⟩
    have same : BitVec.ofNat 8 w.1.toNat = w.1 := by simp
    exact ⟨w.1.toNat, w.1.isLt, g, by rw [same]; exact range, Prod.ext same value.symm⟩

/-- A register or flip-flop of a map is at its reset value. -/
theorem read_registersReset {map : List DerivRange} {x : Byte} {g : DerivRange} (d : DerivState)
    (range : derivRange map x = some g) (kind : g.kind = .register ∨ g.kind = .portFlipFlop) :
    ((registersReset map d).apply { regs := [], request := false, inner := 0 }).regs.read x.toNat
      = g.resetValue &&& g.mask := by
  have no_line : ¬isPortLine g = true := by
    rw [isPortLine_iff]; rintro ⟨f, p, line⟩; rcases kind with h | h <;> cases h.symm.trans line
  rw [DerivEffect.apply_regs]
  refine Memory.read_writeAll_same rfl ?_ (.inl ?_)
  · intro w hw here
    obtain ⟨b, hb, rfl⟩ := List.mem_map.mp hw
    obtain ⟨g', range', value⟩ := mem_registersReset_writes.mp hb
    obtain rfl : g' = g := Option.some.inj (range'.symm.trans (BitVec.eq_of_toNat_eq here ▸ range))
    exact value.trans (if_neg no_line)
  · rw [List.map_map]
    exact List.mem_map.mpr ⟨(x, _), mem_registersReset_writes.mpr ⟨g, range, (if_neg no_line).symm⟩, rfl⟩

theorem derivAtReset_of_hasDeriv {c : Config} (has : c.hasDeriv = true) (d : DerivState) :
    derivAtReset c d = ((derivModel c).onReset d).apply { regs := [], request := false, inner := 0 } :=
  if_pos has

theorem derivAtReset_of_absent {c : Config} (absent : c.hasDeriv = false) (d : DerivState) :
    derivAtReset c d = { regs := [], request := false, inner := 0 } :=
  if_neg (Bool.eq_false_iff.mp absent)

/-- While the RESET pin is active, a step is a reset event. -/
theorem step_reset {s : State} (h : s.pins.reset = true) : step s = .next (environment 0 (doReset s)) :=
  if_pos h

theorem s1Read_reset : I2C.reset.s1Read = 0x10 := by decide

/-- Settles O40: `doReset` field by field; a register of a map by the writes of `registersReset`. -/
theorem resetEvent : Obligations.ResetEvent := by
  intro s active
  refine ⟨doReset s, step_reset active,
    rfl, rfl, rfl, rfl, rfl, rfl, rfl, rfl, rfl, rfl, rfl, rfl, rfl, rfl, rfl, rfl, rfl,
    rfl, rfl, rfl, s1Read_reset, rfl, rfl, rfl, rfl, rfl, rfl, rfl,
    fun has => ?_, fun map x g has logic range kind => ?_, fun absent => ?_,
    freeMemory_wf _ _, freeMemory_below _ _, rfl, rfl, rfl, rfl⟩
  · exact derivAtReset_of_hasDeriv has s.deriv
  · have left : (doReset s).deriv =
        (registersReset map s.deriv).apply { regs := [], request := false, inner := 0 } :=
      (derivAtReset_of_hasDeriv has s.deriv).trans (by rw [derivModel_registers logic]; rfl)
    rw [left]
    exact ⟨read_registersReset s.deriv range kind, rfl⟩
  · have left : (doReset s).deriv = { regs := [], request := false, inner := 0 } :=
      derivAtReset_of_absent absent s.deriv
    rw [left]
    exact ⟨rfl, rfl⟩

end Sys2Proof.Machine

/-! The I2C-bus interface: the accesses of the CPU (spec/46_io.md R268 to R276, spec/60_exceptions.md R354, R357) and the events
of the bus (R352 to R366). -/

namespace Sys2Proof.Machine

/-! ### The fields in numbers -/

/-- The count of a transfer in numbers: BC, or 8 where BC is 0, and the acknowledge bit. -/
theorem transferCount_eq (c : I2C) (bc : BitVec 3) :
    c.transferCount bc = BitVec.ofNat 4 ((if bc = 0 then 8 else bc.toNat) + (c.s2.getLsbD 6).toNat) := by
  unfold I2C.transferCount I2C.ack
  generalize c.s2.getLsbD 6 = ack
  revert bc ack
  decide

theorem s1Read_eq (c : I2C) :
    c.s1Read = BitVec.ofNat 8 (128 * c.mst.toNat + 64 * c.trx.toNat + 32 * c.bb.toNat + 16 * c.pin.toNat
      + 8 * c.al.toNat + 4 * c.aas.toNat + 2 * c.ad0.toNat + c.lrb.toNat) := by
  have value : c.s1Read.toNat = 128 * c.mst.toNat + 64 * c.trx.toNat + 32 * c.bb.toNat + 16 * c.pin.toNat
      + 8 * c.al.toNat + 4 * c.aas.toNat + 2 * c.ad0.toNat + c.lrb.toNat := by
    simp only [I2C.s1Read, toNat_append_eq_add, BitVec.toNat_ofBool]
    omega
  rw [← value, BitVec.ofNat_toNat, BitVec.setWidth_eq]

theorem setWidth_seven_eq (v : Byte) : v.setWidth 7 = BitVec.ofNat 7 (v.toNat % 128) :=
  BitVec.eq_of_toNat_eq (by simp)

/-! ### S0, S2 and the read of S1 -/

theorem onI2C_present {s : State} (h : s.cfg.hasI2C = true) (k : Result State) : onI2C s k = k := if_pos h

theorem onI2C_absent {s : State} (h : s.cfg.hasI2C = false) (k : Result State) : onI2C s k = .refused .noI2C :=
  if_neg (Bool.eq_false_iff.mp h)

/-- The cancel of PIN with the count in numbers. -/
theorem cancelPin_eq (c : I2C) :
    c.cancelPin = if c.pin then { c with al := false, aas := false }
      else { c with
        pin := true, al := false, aas := false
        bcnt := BitVec.ofNat 4 ((if c.bc = 0 then 8 else c.bc.toNat) + (c.s2.getLsbD 6).toNat)
        ad0 := c.ad0 && !c.ad0Due, ad0Due := false } := by
  rw [I2C.cancelPin, transferCount_eq]

theorem storeS0_closed {s : State} (h : s.cfg.hasI2C = true) (eso : s.i2c.eso = false) (v : Byte) :
    storeS0 s v = .next { s with i2c := { s.i2c with s0a := v } } := by
  rw [storeS0, onI2C_present h, I2C.writeS0, if_neg (Bool.eq_false_iff.mp eso)]; rfl

theorem storeS0_open {s : State} (h : s.cfg.hasI2C = true) (eso : s.i2c.eso = true) (v : Byte) :
    storeS0 s v =
      .next { s with i2c := ({ s.i2c with s0 := v, txByte := v, spent := false } : I2C).cancelPin } := by
  rw [storeS0, onI2C_present h, I2C.writeS0, if_pos eso]; rfl

theorem storeS2_present {s : State} (h : s.cfg.hasI2C = true) (v : Byte) :
    storeS2 s v = .next { s with i2c := { s.i2c with s2 := BitVec.ofNat 7 (v.toNat % 128) } } := by
  rw [storeS2, onI2C_present h, I2C.writeS2, setWidth_seven_eq]; rfl

theorem exec_movAS0 {s : State} (h : s.cfg.hasI2C = true) :
    exec .movAS0 s = .next { s with a := s.i2c.s0, i2c := s.i2c.cancelPin } :=
  onI2C_present h _

theorem exec_movAS1 {s : State} (h : s.cfg.hasI2C = true) :
    exec .movAS1 s = .next { s with a := s.i2c.s1Read } :=
  onI2C_present h _

/-- Settles O36: the moves with S0 by the cancel of PIN, those of S1 and S2 by their value in numbers. -/
theorem serialMoves : Obligations.SerialMoves := by
  refine ⟨.of_encode_eq rfl rfl, .of_encode_eq rfl rfl, .of_encode_eq rfl rfl, .of_encode_eq rfl rfl,
    fun d => ⟨.of_encode_eq rfl rfl, .of_encode_eq rfl rfl⟩, ?_, ?_⟩
  · intro s h c bits cancelled toS0
    have to_s0 (v : Byte) : toS0 (storeS0 s v) v :=
      ⟨fun eso => storeS0_closed h eso v, fun eso => (storeS0_open h eso v).trans (by rw [cancelPin_eq])⟩
    refine ⟨?_, ?_, to_s0 s.a, to_s0, storeS2_present h s.a, storeS2_present h⟩
    · rw [exec_movAS0 h, cancelPin_eq]
    · rw [exec_movAS1 h, s1Read_eq]
  · intro s d h
    simp only [List.forall_mem_cons]
    exact ⟨onI2C_absent h _, onI2C_absent h _, onI2C_absent h _, onI2C_absent h _, onI2C_absent h _, onI2C_absent h _,
      onI2C_absent h _, onI2C_absent h _, List.forall_mem_nil _⟩

/-! ### The write of S1 -/

/-- The interface after the bits of a write of S1 are loaded, with the mode, BB, AL and the count that the case leaves. -/
def s1Loaded (c : I2C) (v : Byte) (mst trx bb al : Bool) (bc : BitVec 3) : I2C :=
  { c with
    mst := mst, trx := trx, bb := bb, pin := true, eso := v.getLsbD 3, bc := bc
    bcnt := BitVec.ofNat 4 ((if bc = 0 then 8 else bc.toNat) + (c.s2.getLsbD 6).toNat), al := al
    aas := false, ad0 := c.ad0 && (c.pin || !c.ad0Due), ad0Due := c.ad0Due && c.pin }

/-- The transfer before is over (R57, R360). -/
def transferEnded (d : I2C) (last : BusCondition) : I2C :=
  { d with ad0 := false, ad0Due := false, selected := false, lostByte := false, lastCond := last }

theorem s1Load_eq (c : I2C) (v : Byte) :
    c.s1Load v = s1Loaded c v (v.getLsbD 7) (v.getLsbD 6) (v.getLsbD 5) false (v.extractLsb' 0 3) := by
  cases pin : c.pin <;>
    simp [I2C.s1Load, I2C.cancelPin, s1Loaded, pin, transferCount_eq]

/-- A write of S1 that takes full effect, by what the interface does with it. -/
theorem s1Act_eq (c : I2C) (v : Byte) :
    c.s1Act v =
      if v.getLsbD 7 = true ∧ v.getLsbD 5 = true ∧ c.bb = false then
        { transferEnded (s1Loaded c v true (v.getLsbD 6) true false 0) .start with txByte := c.s0 }
      else if v.getLsbD 7 = true ∧ v.getLsbD 5 = true ∧ c.mst = false then
        { s1Loaded c v false false true true (v.extractLsb' 0 3) with lostByte := true }
      else if c.mst = true ∧ v.getLsbD 5 = false then
        transferEnded (s1Loaded c v false false false false (v.extractLsb' 0 3)) .stop
      else s1Loaded c v (v.getLsbD 7) (v.getLsbD 6) (v.getLsbD 5) false (v.extractLsb' 0 3) := by
  have start : c.startsBy v = true ↔ v.getLsbD 7 = true ∧ v.getLsbD 5 = true ∧ c.bb = false := by
    simp [I2C.startsBy, and_assoc]
  have lost : c.losesBy v = true ↔ v.getLsbD 7 = true ∧ v.getLsbD 5 = true ∧ c.bb = true ∧ c.mst = false := by
    simp [I2C.losesBy, and_assoc]
  have stopped : c.stopsBy v = true ↔ c.mst = true ∧ v.getLsbD 5 = false := by simp [I2C.stopsBy]
  rw [I2C.s1Act, s1Load_eq]
  by_cases hstart : v.getLsbD 7 = true ∧ v.getLsbD 5 = true ∧ c.bb = false
  · rw [if_pos hstart, if_pos (start.mpr hstart)]
    simp [I2C.endTransfer, transferEnded, s1Loaded, transferCount_eq, hstart]
  · rw [if_neg hstart, if_neg (mt start.mp hstart)]
    by_cases hlost : v.getLsbD 7 = true ∧ v.getLsbD 5 = true ∧ c.mst = false
    · have busy : c.bb = true := by simpa [hlost] using hstart
      rw [if_pos hlost]
      obtain ⟨set, attempted, slave⟩ := hlost
      rw [if_pos (lost.mpr ⟨set, attempted, busy, slave⟩)]
      simp [I2C.loseArbitration, s1Loaded, attempted]
    · rw [if_neg hlost, if_neg (mt lost.mp fun ⟨set, busy, _, slave⟩ => hlost ⟨set, busy, slave⟩)]
      by_cases hstop : c.mst = true ∧ v.getLsbD 5 = false
      · rw [if_pos hstop, if_pos (stopped.mpr hstop)]
        simp [I2C.endTransfer, transferEnded, s1Loaded]
      · rw [if_neg hstop, if_neg (mt stopped.mp hstop)]

theorem s1Inhibited_iff (c : I2C) : c.s1Inhibited = true ↔ c.bb = true ∧ c.mst = false ∧ c.selected = false := by
  simp [I2C.s1Inhibited, and_assoc]

theorem s1GateOpen_eq (c : I2C) (g : S1Gate) (v : Byte) :
    c.s1GateOpen g v = if g = .new then v.getLsbD 3 else c.eso := by
  cases g <;> rfl

/-- MOV S1 goes on with what the write answers. -/
theorem storeS1_of_writeS1 {s : State} {v : Byte} {d : I2C} (h : s.cfg.hasI2C = true)
    (written : s.i2c.writeS1 s.cfg.s1Gate v = .next d) : storeS1 s v = .next { s with i2c := d } := by
  rw [storeS1, onI2C_present h, written]; rfl

/-- Settles O37: the three answers of `writeS1`, and the four effects of a write that takes full effect. -/
theorem serialControlWrite : Obligations.SerialControlWrite := by
  refine ⟨.of_encode_eq rfl rfl, fun d => .of_encode_eq rfl rfl, ?_⟩
  intro s v h c inhibited gate bits loaded ended sets o ho
  have store : o = storeS1 s v := by
    rcases ho with rfl | ⟨rfl, rfl⟩
    · rfl
    · rfl
  have open_eq : s.i2c.s1GateOpen s.cfg.s1Gate v = gate := s1GateOpen_eq _ _ _
  have free_eq (free : ¬inhibited) : s.i2c.s1Inhibited = false :=
    Bool.eq_false_iff.mpr (mt (s1Inhibited_iff s.i2c).mp free)
  rw [store]
  refine ⟨fun stopped => ?_, fun free closed => ?_, fun free opened pin => ?_, fun free opened pin => ?_⟩
  · refine (storeS1_of_writeS1 h (writeS1_next.mpr (.inl ⟨(s1Inhibited_iff _).mpr stopped, rfl⟩))).trans ?_
    rw [stopped.1, Bool.true_and]
  · exact storeS1_of_writeS1 h (writeS1_next.mpr (.inr (.inr ⟨free_eq free, open_eq.trans closed, rfl⟩)))
  · rw [storeS1, onI2C_present h, I2C.writeS1, free_eq free, open_eq.trans opened, pin]; rfl
  · refine (storeS1_of_writeS1 h
      (writeS1_next.mpr (.inr (.inl ⟨free_eq free, open_eq.trans opened, pin, rfl⟩)))).trans ?_
    rw [s1Act_eq]
    rfl

end Sys2Proof.Machine

/-! The events of the I2C-bus (spec/60_exceptions.md R352 to R366). -/

namespace Sys2Proof.Machine

/-! ### While PIN = 0 -/

/-- Between `c` and `d` PIN stays 0, and S0, MST, TRX and the feedback bits stay (R355). -/
def SerialHeld (c d : I2C) : Prop :=
  d.pin = false ∧ d.s0 = c.s0 ∧ d.mst = c.mst ∧ d.trx = c.trx ∧ d.al = c.al ∧ d.aas = c.aas ∧ d.ad0 = c.ad0 ∧ d.lrb = c.lrb

theorem SerialHeld.refl {c : I2C} (pin : c.pin = false) : SerialHeld c c := ⟨pin, rfl, rfl, rfl, rfl, rfl, rfl, rfl⟩

theorem SerialHeld.trans {c d e : I2C} (h1 : SerialHeld c d) (h2 : SerialHeld d e) : SerialHeld c e := by
  obtain ⟨-, s0, mst, trx, al, aas, ad0, lrb⟩ := h1
  obtain ⟨pin, s0', mst', trx', al', aas', ad0', lrb'⟩ := h2
  exact ⟨pin, s0'.trans s0, mst'.trans mst, trx'.trans trx, al'.trans al, aas'.trans aas, ad0'.trans ad0, lrb'.trans lrb⟩

section
variable {c : I2C} (pin : c.pin = false)
include pin

theorem onStart_held : SerialHeld c c.onStart :=
  ⟨pin, rfl, rfl, rfl, rfl, rfl, by simp [I2C.onStart, I2C.endTransfer, pin], rfl⟩

theorem onStop_held : SerialHeld c c.onStop :=
  ⟨pin, rfl, rfl, rfl, rfl, rfl, by simp [I2C.onStop, I2C.endTransfer, pin], rfl⟩

theorem onFirstByte_held (b : Byte) (last : Bool) : SerialHeld c (c.onFirstByte b last) := by
  rw [I2C.onFirstByte, pin]; exact .refl pin

theorem onByteDone_held (b : Byte) (last : Bool) : SerialHeld c (c.onByteDone b last) := by
  rw [I2C.onByteDone, I2C.takesPart, pin]; exact .refl pin

theorem onBit_held (b : Byte) (last : Bool) : SerialHeld c (c.onBit b last) := by
  rw [I2C.onBit, pin]; exact .refl pin

theorem onArbitrationLost_held : SerialHeld c c.onArbitrationLost := by
  rw [I2C.onArbitrationLost, pin]; exact .refl pin

end

/-- An event of the interface acts where the interface can follow the bus. -/
theorem i2cEvent_i2c {s : State} {f : I2C → I2C} (held : s.i2c.pin = false → SerialHeld s.i2c (f s.i2c)) :
    (i2cEvent s f).i2c = s.i2c
      ∨ i2cActive s = true ∧ (s.i2c.pin = false → SerialHeld s.i2c (i2cEvent s f).i2c) := by
  unfold i2cEvent
  split
  · rename_i active; exact .inr ⟨active, held⟩
  · exact .inl rfl

/-- An event that is none of the interface's leaves it alone; one that is acts where the interface can follow the bus, and then
holds what R355 holds. -/
theorem applyEvent_i2c (n : Nat) (s : State) (e : EnvEvent) :
    (applyEvent n s e).2.i2c = s.i2c
      ∨ i2cActive s = true ∧ (s.i2c.pin = false → SerialHeld s.i2c (applyEvent n s e).2.i2c) := by
  cases e with
  | i2cStart => exact i2cEvent_i2c onStart_held
  | i2cStop => exact i2cEvent_i2c onStop_held
  | i2cFirstByte b last => exact i2cEvent_i2c (f := fun c => c.onFirstByte b last) fun pin => onFirstByte_held pin b last
  | i2cByteDone b last => exact i2cEvent_i2c (f := fun c => c.onByteDone b last) fun pin => onByteDone_held pin b last
  | i2cBit b last => exact i2cEvent_i2c (f := fun c => c.onBit b last) fun pin => onBit_held pin b last
  | i2cArbitrationLost => exact i2cEvent_i2c onArbitrationLost_held
  | extEdge => simp only [applyEvent, extEdge]; split <;> exact .inl rfl
  | t1Edge => simp only [applyEvent, t1Edge]; split_ifs <;> exact .inl rfl
  | derivStep => simp only [applyEvent, derivStep]; split <;> exact .inl rfl
  | resetLevel | t0Level | t1Level | port0Ext | port1Ext | port2Ext => exact .inl rfl

theorem applyEvents_held : ∀ (es : List EnvEvent) (n : Nat) (s : State), s.i2c.pin = false →
    SerialHeld s.i2c (applyEvents n s es).i2c
  | [], _, _, pin => .refl pin
  | e :: es, n, s, pin => by
    have first : SerialHeld s.i2c (applyEvent n s e).2.i2c := by
      rcases applyEvent_i2c n s e with still | ⟨-, held⟩
      · rw [still]; exact .refl pin
      · exact held pin
    exact first.trans (applyEvents_held es _ _ first.1)

theorem i2cActive_eq_false_iff (s : State) :
    i2cActive s = false ↔ s.cfg.hasI2C = false ∨ s.i2c.eso = false ∨ s.mode = .stop := by
  cases has : s.cfg.hasI2C <;> cases eso : s.i2c.eso <;> simp [i2cActive, has, eso]

/-- Without the interface, with ESO = 0 or in Stop mode, no event changes the interface, and so it stays without effect. -/
theorem applyEvents_inactive : ∀ (es : List EnvEvent) (n : Nat) (s : State), i2cActive s = false →
    (applyEvents n s es).i2c = s.i2c
  | [], _, _, _ => rfl
  | e :: es, n, s, inactive => by
    have first : (applyEvent n s e).2.i2c = s.i2c := by
      rcases applyEvent_i2c n s e with still | ⟨active, -⟩
      · exact still
      · exact absurd (inactive.symm.trans active) Bool.false_ne_true
    have only := applyEvent_devicesOnly n s e
    have device : (applyEvent n s e).2.cfg = s.cfg := (congrArg State.cfg only).trans rfl
    have mode : (applyEvent n s e).2.mode = s.mode := (congrArg State.mode only).trans rfl
    have inactive' : i2cActive (applyEvent n s e).2 = false := by
      rw [i2cActive, device, mode, first]; exact inactive
    exact (applyEvents_inactive es _ _ inactive').trans first

/-! ### Each event in turn -/

theorem i2cEvent_active {s : State} (has : s.cfg.hasI2C = true) (eso : s.i2c.eso = true) (running : s.mode ≠ .stop)
    (f : I2C → I2C) : i2cEvent s f = { s with i2c := f s.i2c } :=
  if_pos (by simp [i2cActive, has, eso, running])

theorem endTransfer_eq (c : I2C) :
    c.endTransfer = { c with
      selected := false, ad0 := if c.pin then false else c.ad0, ad0Due := !c.pin, lostByte := false } := by
  cases pin : c.pin <;> simp [I2C.endTransfer, pin]

theorem onStart_eq (c : I2C) :
    c.onStart = { c with
      selected := false, ad0 := if c.pin then false else c.ad0, ad0Due := !c.pin, lostByte := false
      bb := true, bc := 0, bcnt := BitVec.ofNat 4 (8 + (c.s2.getLsbD 6).toNat) } := by
  rw [I2C.onStart, endTransfer_eq, transferCount_eq]; rfl

theorem onStop_eq (c : I2C) :
    c.onStop = { c with
      selected := false, ad0 := if c.pin then false else c.ad0, ad0Due := !c.pin, lostByte := false, bb := false } := by
  rw [I2C.onStop, endTransfer_eq]

theorem takesPart_iff (c : I2C) :
    c.takesPart = true ↔
      c.pin = true ∧ (c.mst = true ∨ c.s0a.getLsbD 0 = true ∨ c.selected = true ∨ c.lostByte = true) := by
  simp [I2C.takesPart, I2C.als, or_assoc]

theorem spentAfterBit_eq (c : I2C) :
    c.spentAfterBit = (c.trx && (c.spent
      || (decide (1 ≤ c.bcnt.toNat) && decide (c.bcnt.toNat ≤ 1 + (c.s2.getLsbD 6).toNat)))) := by
  have bits : ∀ (bcnt : BitVec 4) (ack : Bool),
      (decide (bcnt ≠ 0) && decide (bcnt ≤ 1#4 + if ack then 1#4 else 0#4))
        = (decide (1 ≤ bcnt.toNat) && decide (bcnt.toNat ≤ 1 + ack.toNat)) := by decide
  rw [I2C.spentAfterBit, I2C.ack, bits]

theorem count_down_eq (bcnt : BitVec 4) : (if bcnt = 0 then 0 else bcnt - 1) = BitVec.ofNat 4 (bcnt.toNat - 1) := by
  revert bcnt; decide

theorem onBit_eq {c : I2C} (pin : c.pin = true) (bb : c.bb = true) (b : Byte) (last : Bool) :
    let spent := c.trx && (c.spent
      || (decide (1 ≤ c.bcnt.toNat) && decide (c.bcnt.toNat ≤ 1 + (c.s2.getLsbD 6).toNat)))
    c.onBit b last = { c with
      s0 := if c.trx = true ∧ spent = false then c.s0 else b
      lrb := last, bcnt := BitVec.ofNat 4 (c.bcnt.toNat - 1), spent := spent } := by
  intro spent
  have same : c.spentAfterBit = spent := spentAfterBit_eq c
  have kept : (c.trx && !c.spentAfterBit) = true ↔ c.trx = true ∧ spent = false := by simp [same]
  rw [I2C.onBit, if_pos (by simp [pin, bb]), count_down_eq, same]
  simp only [← same, kept]

theorem onArbitrationLost_transmitter {c : I2C} (pin : c.pin = true) (mst : c.mst = true) (trx : c.trx = true) :
    c.onArbitrationLost = { c with al := true, mst := false, trx := false, lostByte := true } :=
  if_pos (by simp [pin, mst, trx])

/-- In the byte in which the arbitration was lost, either end of the byte clears PIN. -/
theorem lostByte_ends {c : I2C} (pin : c.pin = true) (mst : c.mst = false) (lost : c.lostByte = true) (b : Byte) (last : Bool) :
    (c.onByteDone b last).pin = false ∧ (c.onFirstByte b last).pin = false := by
  constructor
  · rw [I2C.onByteDone, if_pos ((takesPart_iff c).mpr ⟨pin, .inr (.inr (.inr lost))⟩)]; rfl
  · rw [I2C.onFirstByte, pin, mst, lost]
    simp only [Bool.not_true, Bool.false_eq_true, if_false, if_true]
    split_ifs <;> rfl

theorem onBit_free {c : I2C} (bb : c.bb = false) (b : Byte) (last : Bool) : c.onBit b last = c :=
  if_neg (by simp [bb])

theorem onArbitrationLost_other {c : I2C} (h : c.mst = false ∨ c.trx = false) : c.onArbitrationLost = c :=
  if_neg (by rcases h with h | h <;> simp [h])

theorem lostByte_events (n : Nat) {s : State} (has : s.cfg.hasI2C = true) (eso : s.i2c.eso = true)
    (running : s.mode ≠ .stop) (pin : s.i2c.pin = true) (mst : s.i2c.mst = false) (lost : s.i2c.lostByte = true)
    (b : Byte) (last : Bool) :
    (applyEvent n s (.i2cByteDone b last)).2.i2c.pin = false
      ∧ (applyEvent n s (.i2cFirstByte b last)).2.i2c.pin = false := by
  simp only [applyEvent]
  rw [i2cEvent_active has eso running, i2cEvent_active has eso running]
  exact lostByte_ends pin mst lost b last

/-- A read of S0 before the end of the byte clears AL, and the end of the byte still clears PIN (R354, R358). -/
theorem lostByte_movAS0 (n : Nat) {s : State} (has : s.cfg.hasI2C = true) (eso : s.i2c.eso = true)
    (running : s.mode ≠ .stop) (pin : s.i2c.pin = true) (mst : s.i2c.mst = false) (lost : s.i2c.lostByte = true)
    (b : Byte) (last : Bool) :
    ∃ d, exec .movAS0 s = .next d ∧ d.i2c.al = false
      ∧ (applyEvent n d (.i2cByteDone b last)).2.i2c.pin = false
      ∧ (applyEvent n d (.i2cFirstByte b last)).2.i2c.pin = false := by
  refine ⟨_, exec_movAS0 has, (cancelPin_clears s.i2c).2.1, ?_⟩
  rw [cancelPin_of_cancelled pin]
  refine lostByte_events n ?_ ?_ ?_ ?_ ?_ ?_ b last
  exacts [has, eso, running, pin, mst, lost]

/-- Settles O59: the events held by induction over the list, then each event as the equation of its function. -/
theorem serialEventsHeld : Obligations.SerialEventsHeld := by
  refine ⟨?_, ?_⟩
  · intro n es s u
    refine ⟨fun pin => ?_, fun inactive => applyEvents_inactive es n s ((i2cActive_eq_false_iff s).mpr inactive)⟩
    obtain ⟨pin', s0, mst, trx, al, aas, ad0, lrb⟩ := applyEvents_held es n s pin
    exact ⟨pin', s0, mst, trx, al, aas, ad0, lrb⟩
  · intro n s b last has eso running c ack gives ended takesPart spent
    have event (f : I2C → I2C) : (n, i2cEvent s f) = (n, { s with i2c := f s.i2c }) :=
      congrArg (Prod.mk n) (i2cEvent_active has eso running f)
    have gives_of {e : EnvEvent} {f : I2C → I2C} {d : I2C} (he : applyEvent n s e = (n, i2cEvent s f))
        (hf : f s.i2c = d) : gives e d := he.trans ((event f).trans (by rw [hf]))
    refine ⟨gives_of rfl (onStart_eq c), gives_of rfl (onStop_eq c), fun pin part => ?_, fun idle => ?_, fun pin bb => ?_,
      fun free => ?_, fun pin mst trx => ?_, fun pin mst trx => ?_, fun other => ?_⟩
    · exact gives_of (f := fun c => c.onByteDone b last) rfl (if_pos ((takesPart_iff c).mpr ⟨pin, part⟩))
    · exact gives_of (f := fun c => c.onByteDone b last) rfl (if_neg fun part => idle ((takesPart_iff c).mp part).2)
    · exact gives_of (f := fun c => c.onBit b last) rfl (onBit_eq pin bb b last)
    · exact gives_of (f := fun c => c.onBit b last) rfl (onBit_free free b last)
    · exact gives_of rfl (onArbitrationLost_transmitter pin mst trx)
    · have lost : applyEvent n s .i2cArbitrationLost =
          (n, { s with i2c := { c with al := true, mst := false, trx := false, lostByte := true } }) :=
        gives_of rfl (onArbitrationLost_transmitter pin mst trx)
      rw [lost]
      refine lostByte_movAS0 n ?_ ?_ ?_ ?_ ?_ ?_ b last
      exacts [has, eso, running, pin, rfl, rfl]
    · exact gives_of rfl (onArbitrationLost_other other)

/-! ### The first byte -/

theorem toNat_address (b : Byte) : (b.extractLsb' 1 7).toNat = b.toNat / 2 := by
  rw [BitVec.extractLsb'_toNat, Nat.shiftRight_eq_div_pow, Nat.mod_eq_of_lt (by omega)]

theorem addressMatches_iff (c : I2C) (b : Byte) :
    c.addressMatches b = true ↔ b.toNat / 2 = c.s0a.toNat / 2 ∨ b = 0x00 := by
  rw [I2C.addressMatches, Bool.or_eq_true, decide_eq_true_iff, decide_eq_true_iff, ← BitVec.toNat_inj, toNat_address,
    toNat_address]

/-- Settles O60: the branches of `onFirstByte` for a slave. -/
theorem addressRecognition : Obligations.AddressRecognition := by
  intro n s b last has eso running pin mst u recognised foreign
  have acts : u = { s with i2c := s.i2c.onFirstByte b last } :=
    i2cEvent_active has eso running fun c => c.onFirstByte b last
  have unmatched (h : foreign) : s.i2c.addressMatches b = false := by
    obtain ⟨-, address, general⟩ := h
    exact Bool.eq_false_iff.mpr fun h => ((addressMatches_iff _ b).mp h).elim address general
  refine ⟨fun als own => ?_, fun other kept => ?_, fun other lost => ?_, fun als => ?_⟩
  · have matched := (addressMatches_iff s.i2c b).mpr own
    simp only [recognised, acts, I2C.onFirstByte, I2C.als, I2C.finishByte, pin, mst, als, matched]
    rfl
  · simp only [acts, I2C.onFirstByte, I2C.als, pin, mst, other.1, unmatched other, kept]
    rfl
  · simp only [acts, I2C.onFirstByte, I2C.als, I2C.finishByte, pin, mst, other.1, unmatched other, lost]
    rfl
  · simp only [recognised, acts, I2C.onFirstByte, I2C.als, I2C.finishByte, pin, mst, als]
    rfl

end Sys2Proof.Machine
